-- ==== Sys2Proof/Word.lean ====
section
/-! DEFINITION. The word of the links and of the tables: 16 data bits (00_scope.md 4, R177). -/

namespace Sys2Proof

/-- A word is 16 bits; the odd-parity bit travels on its own line and is not part of it (R177). -/
abbrev Word := BitVec 16

end Sys2Proof
end

