-- ==== Sys2Proof/Config.lean ====
section
/-! DEFINITION. What the part fixes and no table changes, and the two values the manual leaves open.
Durations are in milliseconds. -/

namespace Sys2Proof

/-- The outbound words of which R178 leaves some bits without a field. -/
inductive OpenWord where
  | answerCode | answerKind | dataPosition | driveState | resetDone | readCounts | claimEntry | suspectEntry
deriving DecidableEq, Repr

end Sys2Proof

namespace Sys2Proof.Config

/-- FREE VALUE (log 7). The bits that no field of R178 takes in an outbound word whose fields make `fields`. -/
opaque unusedBits : (w : OpenWord) → (fields : Word) → Word

/-- FREE VALUE (log 8). The second address word of a header, which holds the head and the sector number; R3 does
not give the places of their bits, so which word it is stays open. -/
opaque headerSectorWord : (head sector : Nat) → Word

/-- The Work List never holds more than 16 records (R38). -/
def maxRecords : Nat := 16
/-- The last LSA (R6). -/
def lastLsa : Nat := 19199
/-- Sectors of a cylinder (R6: 2 heads of 24 sectors). -/
def sectorsPerCylinder : Nat := 48
/-- Sectors of a track (R1). -/
def sectorsPerTrack : Nat := 24
/-- The first spare cylinder (R7). -/
def firstSpareCylinder : Nat := 400
/-- The last cylinder (R1). -/
def lastCylinder : Nat := 407
/-- Words of a sector's data field (R2). -/
def wordsPerSector : Nat := 256
/-- Capacity of a Notice Queue (R171). -/
def noticeCapacity : Nat := 8
/-- Capacity of the Suspect List (R162). -/
def suspectCapacity : Nat := 8
/-- Counted reads of a window (R158). -/
def windowReads : Nat := 64
/-- The bypass count stops here (R51). -/
def maxBypass : Nat := 15
/-- The in-tolerance count that spin-up needs, and at which it stops (R123, R124). -/
def lockRevolutions : Nat := 8
/-- The out-of-tolerance count that is a speed fault, and at which it stops (R123, R128). -/
def speedFaultRevolutions : Nat := 2
/-- Bounds of the revolution period in tolerance, in microseconds (R123). -/
def minRevolution : Nat := 24500
def maxRevolution : Nat := 25500
/-- Escalation timer (R168) and stall timer (R170): 2.0 s. -/
def escalationMs : Nat := 2000
def stallMs : Nat := 2000
/-- Limit of the loading recalibration (R125) and duration of an unload (R127). -/
def loadingRecalMs : Nat := 800
def unloadMs : Nat := 400
/-- Fault-clear commands of one clearing (R130). -/
def maxFaultClears : Nat := 3
/-- A tenth is 100 ms (00_scope.md 4). -/
def tenthMs : Nat := 100
def minuteMs : Nat := 60000

/-- Defaults of the Drive Record's fields, used for one start in place of a failing word (R136, R154). -/
def defaultSpinUp : Nat := 600
def defaultHeadLoad : Nat := 15
def defaultCoolDown : Nat := 200
def defaultReadyWait : Nat := 100
/-- Defaults of the Monitor Record's fields (R140, R154). -/
def defaultThreshold : Nat := 4
def defaultTripWindows : Nat := 3

end Sys2Proof.Config
end

