-- ==== Sys2Proof/Syntax.lean ====
section
/-! DEFINITION. The commands of the block: one constructor of `Instr` for each row of spec/opcode_table.json. -/

namespace Sys2Proof

/-- The two channels (00_scope.md 4). -/
inductive Channel where
  | a | b
deriving DecidableEq, Repr

/-- "The other channel" of A is B, and of B is A (00_scope.md 4). -/
def Channel.other : Channel → Channel
  | .a => .b
  | .b => .a

/-- An ORDER frame received whole, less word 0 and the function code: the tag and the class of word 1, and the
words from word 2 to the end of the frame as they were sent (R177). -/
structure OrderFrame where
  tag   : BitVec 8
  cls   : BitVec 2
  words : List Word
deriving DecidableEq, Repr

/-- Why an inbound frame is discarded (R167). -/
inductive DiscardCause where
  /-- A word of it has a parity error. -/
  | parity
  /-- A marked word arrived before the declared length was reached; that word begins the next frame. -/
  | cutByMark (w : Word)
  /-- A word without the frame mark arrived where a frame should begin. -/
  | noMark
  /-- Its frame type is neither ORDER nor RESET. -/
  | badType
  /-- A RESET frame that names a level outside 1..3. -/
  | badResetLevel
  /-- Its declared length is below 2. -/
  | lengthBelowTwo
  /-- A RESET frame whose declared length is not 2. -/
  | badResetLength
deriving DecidableEq, Repr

/-- The commands, in the order of the table. -/
inductive Instr where
  /-- Power-on, with the cartridge, supply and write-fault lines as found (R180, R119). -/
  | powerOn (cartridge supply writeFault : Bool)
  | linkPresentRises (c : Channel)
  | linkPresentFalls (c : Channel)
  | frameDiscarded (c : Channel) (cause : DiscardCause)
  | resetLevel1 (c : Channel)
  | resetLevel2 (c : Channel)
  | resetLevel3 (c : Channel)
  | level3Values
  | escalationTimerExpiry (c : Channel)
  | undefinedFunction (c : Channel) (code : BitVec 6) (f : OrderFrame)
  | null (c : Channel) (f : OrderFrame)
  | read (c : Channel) (f : OrderFrame)
  | write (c : Channel) (f : OrderFrame)
  | verify (c : Channel) (f : OrderFrame)
  | formatTrack (c : Channel) (f : OrderFrame)
  | seek (c : Channel) (f : OrderFrame)
  | sync (c : Channel) (f : OrderFrame)
  | claim (c : Channel) (f : OrderFrame)
  | yield (c : Channel) (f : OrderFrame)
  | keep (c : Channel) (f : OrderFrame)
  | release (c : Channel) (f : OrderFrame)
  | status (c : Channel) (f : OrderFrame)
  | readSuspect (c : Channel) (f : OrderFrame)
  | readTable (c : Channel) (f : OrderFrame)
  | loadTable (c : Channel) (f : OrderFrame)
  | copyActive (c : Channel) (f : OrderFrame)
  | commit (c : Channel) (f : OrderFrame)
  | setDriveTarget (c : Channel) (f : OrderFrame)
  | clearDeferred (c : Channel) (f : OrderFrame)
  | clearSuspect (c : Channel) (f : OrderFrame)
  | clearMonitor (c : Channel) (f : OrderFrame)
  | outboundWordTaken (c : Channel)
  | stallLimit (c : Channel)
  | arbiterChoice
  | commitQuietPoint
  | syncCompletion (c : Channel)
  | drainEnd (extent : Nat)
  | yieldTimerExpiry (extent : Nat)
  | targetOffFlushDone
  | seekComplete
  | seekTimeout
  | recalibrationTimeout
  | loadingRecalTimeout
  /-- An index pulse: the time since the pulse before it in microseconds, and whether the data separator
  reports lock at it (R123, R124). -/
  | indexPulse (period : Nat) (lock : Bool)
  | missingPulse
  /-- A header read under the selected head: its first address word, the head and the sector number that make its second
  (Config.headerSectorWord, log 8), and its check word, as recorded (R3, R4). -/
  | headerRead (cylinder : Word) (head sector : Nat) (check : Word)
  /-- A data field read: its words in recorded order and the recorded check word (R5, R90). -/
  | dataFieldRead (words : List Word) (check : Word)
  | dataFieldWritten
  | verifyRereadDone (words : List Word) (check : Word)
  | formatSlotWritten
  | writeFault
  /-- The 50 ms fault-clear wait ends, with the write-fault line as read then (R130). -/
  | faultClearWaitExpiry (raised : Bool)
  | supplyLow
  | supplyReturn
  | cartridgeInserted
  | cartridgeRemoved
  | spindleAtRest
  | coolDownExpiry
  | spinUpLimitExpiry
  | headLoadExpiry
  | unloadComplete
  | idleExpiry
  | readyWaitExpiry
deriving DecidableEq, Repr

end Sys2Proof
end

