-- ==== Sys2Proof/Machine/Bits.lean ====
section
/-! DEFINITION. Bit fields of words, packing of fields, and the cyclic check of R5. -/

namespace Sys2Proof.Machine

/-- The number in bits `hi..lo` of a word (R177: bit 15 is the most significant). -/
def field (w : Word) (hi lo : Nat) : Nat := (w.toNat / 2 ^ lo) % 2 ^ (hi + 1 - lo)

/-- Bit `i` of a word. -/
def bit (w : Word) (i : Nat) : Bool := w.getLsbD i

/-- A number placed with its lowest bit at `lo`. -/
def place (n lo : Nat) : Nat := n * 2 ^ lo

/-- A Bool as the number 1 or 0. -/
def flag (b : Bool) : Nat := if b then 1 else 0

/-- The word made of disjoint fields already placed; every other bit is 0. -/
def word (fields : List Nat) : Word := BitVec.ofNat 16 fields.sum

/-- One protected bit through the check register: generator x^16 + x^15 + x^2 + 1 (R5). -/
def crcBit (reg : Word) (b : Bool) : Word :=
  if reg.msb ^^ b then (reg <<< 1) ^^^ 0x8005#16 else reg <<< 1

/-- A word through the check register, bit `n - 1` first (R5: most significant bit first). -/
def crcBits (w : Word) : Nat → Word → Word
  | 0, reg => reg
  | n + 1, reg => crcBits w n (crcBit reg (bit w n))

/-- A word through the check register. -/
def crcWord (reg : Word) (w : Word) : Word := crcBits w 16 reg

/-- The check word of a run of words: the register, preset to all ones, after the last of them (R5). -/
def checkWord (words : List Word) : Word := words.foldl crcWord 0xFFFF#16

/-- The data of sector `i` of a data list: 256 words a sector, in ascending LSA (R18). -/
def sectorWords (data : List Word) (i : Nat) : List Word :=
  (data.drop (i * Config.wordsPerSector)).take Config.wordsPerSector

end Sys2Proof.Machine
end

