-- ==== Sys2Proof/Machine/Tables.lean ====
section
/-! DEFINITION. The five tables as words with parity (R138, R139, R141, R179), their fields, their range checks (R143)
and the fallback forms (R154). -/

namespace Sys2Proof.Machine

/-- A stored table word with the result its parity test would give: good or failed (R138). -/
structure TWord where
  value : Word
  good  : Bool
deriving DecidableEq, Repr

/-- A word written afresh has good parity (R141). -/
def TWord.fresh (w : Word) : TWord := { value := w, good := true }

/-- Channel Record, 3 words (R179). -/
structure ChannelRecord where
  w0 : TWord
  w1 : TWord
  w2 : TWord
deriving DecidableEq, Repr

/-- Extent Table entry, 4 words (R179). -/
structure ExtentEntry where
  w0 : TWord
  w1 : TWord
  w2 : TWord
  w3 : TWord
deriving DecidableEq, Repr

/-- Remap Table position, 2 words (R179). -/
structure RemapEntry where
  w0 : TWord
  w1 : TWord
deriving DecidableEq, Repr

/-- Drive Record, 5 words (R179). -/
structure DriveRecord where
  w0 : TWord
  w1 : TWord
  w2 : TWord
  w3 : TWord
  w4 : TWord
deriving DecidableEq, Repr

/-- Monitor Record, 1 word (R179). -/
structure MonitorRecord where
  w0 : TWord
deriving DecidableEq, Repr

/-- One value for each channel: index 0 is A, index 1 is B (00_scope.md 4). -/
structure PerChannel (α : Type) where
  a : α
  b : α
deriving DecidableEq, Repr

def PerChannel.get {α : Type} (p : PerChannel α) : Channel → α
  | .a => p.a
  | .b => p.b

def PerChannel.set {α : Type} (p : PerChannel α) (c : Channel) (v : α) : PerChannel α :=
  match c with
  | .a => { p with a := v }
  | .b => { p with b := v }

/-- A set of the five tables (R139). -/
structure TableSet where
  channels : PerChannel ChannelRecord
  extents  : Vector ExtentEntry 16
  remap    : Vector RemapEntry 32
  drive    : DriveRecord
  monitor  : MonitorRecord
deriving DecidableEq, Repr

/-- The priority of a disk order (00_scope.md 5). -/
inductive Class where
  | urgent | normal | background
deriving DecidableEq, Repr

/-- Rank, higher is more urgent (R23). -/
def Class.rank : Class → Nat
  | .urgent => 2
  | .normal => 1
  | .background => 0

/-- The class of its number (R177): 0 URGENT, 1 NORMAL, 2 BACKGROUND, 3 none. -/
def Class.ofNat? : Nat → Option Class
  | 0 => some .urgent
  | 1 => some .normal
  | 2 => some .background
  | _ => none

/-- The rights of an extent (R63). -/
inductive Right where
  | read | write | format
deriving DecidableEq, Repr

/-! Fields of a Channel Record (R179). -/

def ChannelRecord.management (r : ChannelRecord) : Bool := bit r.w0.value 15
def ChannelRecord.writeBehindPermitted (r : ChannelRecord) : Bool := bit r.w0.value 14
/-- The class ceiling; a value that names no class (noise only) admits none above BACKGROUND. -/
def ChannelRecord.ceiling (r : ChannelRecord) : Class := (Class.ofNat? (field r.w0.value 13 12)).getD .background
def ChannelRecord.maxSectors (r : ChannelRecord) : Nat := field r.w0.value 11 8
def ChannelRecord.bufferQuota (r : ChannelRecord) : Nat := field r.w0.value 7 4
def ChannelRecord.slotQuota (r : ChannelRecord) : Nat := field r.w1.value 4 0
/-- Whether notice kind `k` (1..10) is in the enable set (R179: bit k - 1). -/
def ChannelRecord.enables (r : ChannelRecord) (k : Nat) : Bool := bit r.w2.value (k - 1)

/-! Fields of an Extent Table entry (R61, R179). -/

def ExtentEntry.valid (e : ExtentEntry) : Bool := bit e.w0.value 15
def ExtentEntry.exclusive (e : ExtentEntry) : Bool := bit e.w0.value 14
def ExtentEntry.writeBehind (e : ExtentEntry) : Bool := bit e.w0.value 13
def ExtentEntry.verifyAfterWrite (e : ExtentEntry) : Bool := bit e.w0.value 12
def ExtentEntry.firstLsa (e : ExtentEntry) : Nat := e.w1.value.toNat
def ExtentEntry.lastLsa (e : ExtentEntry) : Nat := e.w2.value.toNat
/-- The yield limit in tenths. -/
def ExtentEntry.yieldLimit (e : ExtentEntry) : Nat := field e.w3.value 7 0

/-- The bit of a right within a group of three, READ highest (R179). -/
def Right.index : Right → Nat
  | .read => 2
  | .write => 1
  | .format => 0

/-- Whether the entry gives the channel the right (R179: A in bits 11..9, B in bits 8..6). -/
def ExtentEntry.hasRight (e : ExtentEntry) (c : Channel) (r : Right) : Bool :=
  match c with
  | .a => bit e.w0.value (9 + r.index)
  | .b => bit e.w0.value (6 + r.index)

/-- Whether the entry is a valid EXCLUSIVE extent: the entries that have a claim state (R67). -/
def ExtentEntry.claimable (e : ExtentEntry) : Bool := e.valid && e.exclusive

/-! Fields of a Remap Table position (R8, R179). -/

def RemapEntry.used (e : RemapEntry) : Bool := bit e.w0.value 15
def RemapEntry.lsa (e : RemapEntry) : Nat := field e.w0.value 14 0
def RemapEntry.spare (e : RemapEntry) : Nat := field e.w1.value 8 0
/-- Both words pass the parity test. -/
def RemapEntry.good (e : RemapEntry) : Bool := e.w0.good && e.w1.good

/-! Fields of the Drive Record (R136, R179); times in tenths, the idle unload in minutes. -/

def DriveRecord.spinUp (r : DriveRecord) : Nat := r.w0.value.toNat
def DriveRecord.coolDown (r : DriveRecord) : Nat := r.w1.value.toNat
def DriveRecord.readyWait (r : DriveRecord) : Nat := r.w2.value.toNat
def DriveRecord.headLoad (r : DriveRecord) : Nat := field r.w3.value 15 10
def DriveRecord.idleUnload (r : DriveRecord) : Nat := field r.w3.value 5 0
def DriveRecord.retryLimit (r : DriveRecord) : Nat := field r.w4.value 15 12
def DriveRecord.bypassLimit (r : DriveRecord) : Nat := field r.w4.value 11 8

/-! Fields of the Monitor Record (R140, R179). -/

def MonitorRecord.threshold (r : MonitorRecord) : Nat := field r.w0.value 15 8
def MonitorRecord.tripWindows (r : MonitorRecord) : Nat := field r.w0.value 3 0

/-! The words of the entries, in order. -/

def ChannelRecord.words (r : ChannelRecord) : List TWord := [r.w0, r.w1, r.w2]
def ExtentEntry.words (e : ExtentEntry) : List TWord := [e.w0, e.w1, e.w2, e.w3]
def RemapEntry.words (e : RemapEntry) : List TWord := [e.w0, e.w1]
def DriveRecord.words (r : DriveRecord) : List TWord := [r.w0, r.w1, r.w2, r.w3, r.w4]
def MonitorRecord.words (r : MonitorRecord) : List TWord := [r.w0]

/-- Every word of an entry passes its parity test. -/
def wordsGood (ws : List TWord) : Bool := ws.all (·.good)

/-- The five tables by their numbers (R177): 0 Channel Records, 1 Extent, 2 Remap, 3 Drive, 4 Monitor. -/
inductive TableId where
  | channel | extent | remap | drive | monitor
deriving DecidableEq, Repr

def TableId.ofNat? : Nat → Option TableId
  | 0 => some .channel
  | 1 => some .extent
  | 2 => some .remap
  | 3 => some .drive
  | 4 => some .monitor
  | _ => none

/-- The last index of each table (R19). -/
def TableId.lastIndex : TableId → Nat
  | .channel => 1
  | .extent => 15
  | .remap => 31
  | .drive => 0
  | .monitor => 0

/-- Words of one entry (R179). -/
def TableId.entryWords : TableId → Nat
  | .channel => 3
  | .extent => 4
  | .remap => 2
  | .drive => 5
  | .monitor => 1

/-- The entries of a table, each as its words, in ascending index. -/
def TableSet.entries (t : TableSet) : TableId → List (List TWord)
  | .channel => [t.channels.a.words, t.channels.b.words]
  | .extent => t.extents.toList.map (·.words)
  | .remap => t.remap.toList.map (·.words)
  | .drive => [t.drive.words]
  | .monitor => [t.monitor.words]

/-- Every entry of the set in the one sequence of the set positions 0..51 (R147). -/
def TableSet.allEntries (t : TableSet) : List (List TWord) :=
  t.entries .channel ++ t.entries .extent ++ t.entries .remap ++ t.entries .drive ++ t.entries .monitor

/-- Every word of the set passes its parity test. -/
def TableSet.good (t : TableSet) : Bool := t.allEntries.all wordsGood

/-- Every word of all 32 Remap Table positions passes its parity test (R153). -/
def TableSet.remapGood (t : TableSet) : Bool := t.remap.toList.all (·.good)

/-- The Extent Table entry at a number. -/
def TableSet.extent? (t : TableSet) (n : Nat) : Option ExtentEntry := t.extents[n]?

/-! Range checks (R143). A word that holds one field alone is that field: all its 16 bits count, as section 8.6
step 1 shows of the yield limit (DEDUCED, log 10). -/

def channelWordsInRange (w0 w1 w2 : Word) : Bool :=
  decide (field w0 13 12 ≤ 2) && decide (1 ≤ field w0 11 8) && decide (field w0 11 8 ≤ 8)
    && decide (1 ≤ field w0 7 4) && decide (field w0 7 4 ≤ 12)
    && decide (1 ≤ w1.toNat) && decide (w1.toNat ≤ 16) && decide (w2.toNat < 1024)

def extentWordsInRange (w0 w1 w2 w3 : Word) : Bool :=
  !bit w0 15 || (decide (w1.toNat ≤ Config.lastLsa) && decide (w2.toNat ≤ Config.lastLsa) && decide (w3.toNat ≤ 250))

def remapWordsInRange (w0 w1 : Word) : Bool :=
  !bit w0 15 || (decide (field w0 14 0 ≤ Config.lastLsa) && decide (w1.toNat ≤ 383))

def driveWordsInRange (w0 w1 w2 w3 w4 : Word) : Bool :=
  decide (100 ≤ w0.toNat) && decide (w0.toNat ≤ 1200) && decide (50 ≤ w1.toNat) && decide (w1.toNat ≤ 600)
    && decide (10 ≤ w2.toNat) && decide (w2.toNat ≤ 300) && decide (5 ≤ field w3 15 10) && decide (field w3 15 10 ≤ 50)
    && decide (field w3 5 0 ≤ 60) && decide (1 ≤ field w4 15 12) && decide (1 ≤ field w4 11 8)

def monitorWordsInRange (w0 : Word) : Bool :=
  decide (1 ≤ field w0 15 8) && decide (field w0 15 8 ≤ 64) && decide (1 ≤ field w0 3 0) && decide (field w0 3 0 ≤ 8)

/-- The range check of one entry of a table, on its words (R143). -/
def entryInRange (t : TableId) (ws : List Word) : Bool :=
  match t, ws with
  | .channel, [w0, w1, w2] => channelWordsInRange w0 w1 w2
  | .extent, [w0, w1, w2, w3] => extentWordsInRange w0 w1 w2 w3
  | .remap, [w0, w1] => remapWordsInRange w0 w1
  | .drive, [w0, w1, w2, w3, w4] => driveWordsInRange w0 w1 w2 w3 w4
  | .monitor, [w0] => monitorWordsInRange w0
  | _, _ => false

/-- The set with one entry replaced by fresh words (R141, R142); words of another number than the entry's are no
entry and change nothing. -/
def TableSet.writeEntry (s : TableSet) (t : TableId) (i : Nat) (ws : List Word) : TableSet :=
  match t, ws with
  | .channel, [w0, w1, w2] =>
    let e : ChannelRecord := { w0 := .fresh w0, w1 := .fresh w1, w2 := .fresh w2 }
    { s with channels := s.channels.set (if i = 0 then .a else .b) e }
  | .extent, [w0, w1, w2, w3] =>
    let e : ExtentEntry := { w0 := .fresh w0, w1 := .fresh w1, w2 := .fresh w2, w3 := .fresh w3 }
    { s with extents := s.extents.setIfInBounds i e }
  | .remap, [w0, w1] => { s with remap := s.remap.setIfInBounds i { w0 := .fresh w0, w1 := .fresh w1 } }
  | .drive, [w0, w1, w2, w3, w4] =>
    { s with drive := { w0 := .fresh w0, w1 := .fresh w1, w2 := .fresh w2, w3 := .fresh w3, w4 := .fresh w4 } }
  | .monitor, [w0] => { s with monitor := { w0 := .fresh w0 } }
  | _, _ => s

/-! The fallback forms (R154), as words by R179. Fields of invalid and unused entries, which no rule gives, are 0
(DESIGN CHOICE, log 26). -/

/-- Management yes, write-behind no, ceiling URGENT, max sectors 8, buffer quota 6; slot quota 8; all ten kinds. -/
def fallbackChannel : ChannelRecord :=
  { w0 := .fresh (word [place 1 15, place 8 8, place 6 4]), w1 := .fresh (word [8]), w2 := .fresh (word [1023]) }

/-- Entry 0: valid, SHARED, flags off, READ for A and for B, LSAs 0..19,199, yield limit 0. -/
def fallbackExtent0 : ExtentEntry :=
  { w0 := .fresh (word [place 1 15, place 4 9, place 4 6]), w1 := .fresh 0#16
    w2 := .fresh (word [Config.lastLsa]), w3 := .fresh 0#16 }

def invalidExtent : ExtentEntry :=
  { w0 := .fresh 0#16, w1 := .fresh 0#16, w2 := .fresh 0#16, w3 := .fresh 0#16 }

def unusedRemap : RemapEntry := { w0 := .fresh 0#16, w1 := .fresh 0#16 }

def fallbackExtents : Vector ExtentEntry 16 := (Vector.replicate 16 invalidExtent).setIfInBounds 0 fallbackExtent0

def emptyRemap : Vector RemapEntry 32 := Vector.replicate 32 unusedRemap

/-- Spin-up limit 600, cool-down time 200, ready wait 100, head load delay 15, idle unload 0, retry limit 8, bypass
limit 6 (R154). -/
def defaultDrive : DriveRecord :=
  { w0 := .fresh (word [600]), w1 := .fresh (word [200]), w2 := .fresh (word [100])
    w3 := .fresh (word [place 15 10]), w4 := .fresh (word [place 8 12, place 6 8]) }

/-- Threshold 4, trip windows 3 (R154). -/
def defaultMonitor : MonitorRecord := { w0 := .fresh (word [place 4 8, 3]) }

/-- The fallback set as both sets hold it at power-on (R138). -/
def fallbackSet : TableSet :=
  { channels := { a := fallbackChannel, b := fallbackChannel }, extents := fallbackExtents, remap := emptyRemap
    drive := defaultDrive, monitor := defaultMonitor }

/-- The active set after a fallback entry: fallback Channel Records and Extent Table, the Remap Table kept or emptied,
the Drive and Monitor Records as they were (R153). -/
def TableSet.toFallback (t : TableSet) (keepRemap : Bool) : TableSet :=
  { t with
    channels := { a := fallbackChannel, b := fallbackChannel }
    extents := fallbackExtents
    remap := if keepRemap then t.remap else emptyRemap }

end Sys2Proof.Machine
end

