-- ==== Sys2Proof/Machine/State.lean ====
section
/-! DEFINITION. The state of the block, as plain data: the nine blocks of 00_scope.md 2, the level-3 operation, the
commands sent to the drive, and the queue of waiting commands. State.reset is the block right after power-on. -/

namespace Sys2Proof.Machine

/-- A timer: stopped, or running with the duration it was started with, in milliseconds. The passing of time is not
modelled: expiries are commands (log 4). -/
abbrev Timer := Option Nat

/-- The defined functions (R17). -/
inductive Func where
  | null | read | write | verify | formatTrack | seek | sync | claim | yield | keep | release | status | readSuspect
  | readTable | loadTable | copyActive | commit | setDriveTarget | clearDeferred | clearSuspect | clearMonitor
deriving DecidableEq, Repr

/-- The faults of FAULTED (R119). -/
inductive DriveFault where
  | spinUp | recal | writeFault
deriving DecidableEq, Repr

/-- The nine states of the Drive Sequencer, in the order of R119; FAULTED carries its fault. -/
inductive SeqState where
  | cooling | stopped | spinningUp | loadingHeads | ready | unloading | parked | spinningDown
  | faulted (f : DriveFault)
deriving DecidableEq, Repr

inductive FallbackReason where
  | powerOn | reset | tableFault | packChanged
deriving DecidableEq, Repr

/-- The mode of the Table Store; the fallback reason is present in FALLBACK only (R138). -/
inductive Mode where
  | normal
  | fallback (reason : FallbackReason)
deriving DecidableEq, Repr

/-- Error kinds, in the order of R34. -/
inductive ErrorKind where
  | dataCheck | header | seek | writeFault | writeVerify | torn | speed | supply | notReady | revoked | tableFault
  | stalled
deriving DecidableEq, Repr

/-- Kinds of the Suspect List (R162). -/
inductive SuspectKind where
  | soft | dataCheck | header | writeVerify | torn
deriving DecidableEq, Repr

/-- Answer codes, in the order of their values 0..32 (R178). -/
inductive AnswerCode where
  | done | short | refusedFunction | refusedRange | refusedClass | refusedTag | refusedExtent | refusedRights
  | refusedClaim | refusedDriveOff | refusedListFull | refusedBuffers | refusedResetting | revoked | claimLost
  | notReady | driveFault | aborted | reset | granted | kept | cancelled | alreadyHeld | claimPending | notExclusive
  | tooLate | notHolder | staged | entryRange | stageLocked | committed | commitFailed | commitPending
deriving DecidableEq, Repr

/-- Commit failure reasons, in the order of R147. -/
inductive CommitReason where
  | stageDamaged | bounds | overlap | remapOrder | spareReused | noManager
deriving DecidableEq, Repr

/-- Notices, each a kind with its payload, in the order of R171. -/
inductive Notice where
  | claimWanted (extent : Nat)
  | claimLost (extent : Nat)
  | tablesCommitted
  | driveState (s : SeqState)
  | mediaDegrading
  | fallback (reason : FallbackReason)
  | deferredError (tag : BitVec 8)
  | resetDone (level : Nat) (channel : Channel)
  | linkAttached (channel : Channel)
  | suspectAdded (lsa : Nat)
deriving DecidableEq, Repr

inductive LinkState where
  | detached | attached | recovering
deriving DecidableEq, Repr

/-- A set deferred error record (R108). -/
structure DeferredRecord where
  tag     : BitVec 8
  lsa     : Nat
  kind    : ErrorKind
  further : Nat
deriving DecidableEq, Repr

/-- An entry of the Suspect List (R162). -/
structure Suspect where
  lsa     : Nat
  kind    : SuspectKind
  count   : Nat
  channel : Channel
deriving DecidableEq, Repr

/-- The names of the claim states (R67). -/
inductive ClaimName where
  | free | held | wanted | handingOver
deriving DecidableEq, Repr

/-- A claim entry of the status block (R35). -/
structure ClaimEntry where
  extent : Nat
  state  : ClaimName
  holder : Option Channel
  waiter : Option Channel
deriving DecidableEq, Repr

/-- The status block (R35). -/
structure StatusBlock where
  channel        : Channel
  linkA          : LinkState
  linkB          : LinkState
  errorCount     : Nat
  overflow       : Bool
  management     : Bool
  mode           : Mode
  unconfirmed    : Bool
  commitPending  : Bool
  state          : SeqState
  targetOn       : Bool
  targetPending  : Bool
  cartridge      : Bool
  cylinder       : Nat
  records        : Nat
  ownRecords     : Nat
  ownLingering   : Nat
  freeBuffers    : Nat
  ownBuffers     : Nat
  deferredSet    : Bool
  degraded       : Bool
  counted        : Nat
  retried        : Nat
  consecutive    : Nat
  suspects       : Nat
  suspectOverflow : Bool
  claims         : List ClaimEntry
deriving DecidableEq, Repr

/-- An entry of a READ-TABLE answer: its words and its parity mark (R37). -/
structure ListedEntry where
  words  : List Word
  failed : Bool
deriving DecidableEq, Repr

/-- The status block or entry list of an answer (R31). -/
inductive AnswerBody where
  | none
  | status (s : StatusBlock)
  | table (entries : List ListedEntry)
  | suspects (entries : List Suspect)
deriving DecidableEq, Repr

/-- An answer (R31); the function code stands as it was received. -/
structure Answer where
  tag         : BitVec 8
  func        : BitVec 6
  code        : AnswerCode
  done        : Nat
  lsa         : Option Nat
  kind        : Option ErrorKind
  soft        : Bool
  unconfirmed : Bool
  early       : Bool
  deferred    : Option DeferredRecord
  index       : Option Nat
  reason      : Option CommitReason
  body        : AnswerBody
deriving DecidableEq, Repr

/-- What a request record is to do (R38): the function with its fields. -/
inductive Job where
  | read (start count : Nat)
  | write (start count : Nat)
  | verify (start count : Nat)
  | formatTrack (cylinder head : Nat) (fill : Word)
  | seek (lsa : Nat)
  | sync
  | claim
  | commit
deriving DecidableEq, Repr

/-- The seven states of a record (R40). -/
inductive RecState where
  | waiting | lingering | active | delivering | claimWait | syncWait | commitWait
deriving DecidableEq, Repr

/-- A record's first error: failing LSA and error kind (R38). -/
structure FirstError where
  lsa  : Option Nat
  kind : ErrorKind
deriving DecidableEq, Repr

/-- A request record (R38). `prepared` and `sent` (data frames taken whole) belong to DELIVERING (R56, R170); the
class is absent for CLAIM, SYNC and COMMIT. -/
structure Record where
  channel    : Channel
  tag        : BitVec 8
  job        : Job
  cls        : Option Class
  extent     : Option Nat
  buffers    : List Nat
  state      : RecState
  bypass     : Nat
  seq        : Nat
  early      : Bool
  done       : Nat
  firstError : Option FirstError
  silent     : Bool
  prepared   : Option Answer
  sent       : Nat
deriving DecidableEq, Repr

/-- What an outbound frame carries (R169); nothing any more once it has been stopped, when the word in progress is all
that is left of it. -/
inductive FrameSource where
  | data
  | deliveryAnswer
  | answer
  | notice
  | stopped
deriving DecidableEq, Repr

/-- The outbound frame in progress: its words not yet taken, the head being the word that waits. -/
structure OutFrame where
  source : FrameSource
  words  : List Word
deriving DecidableEq, Repr

/-- A Channel Port (00_scope.md 2, R166 to R171). -/
structure Port where
  link       : LinkState
  inbound    : List Word
  escalation : Timer
  errorCount : Nat
  notices    : List Notice
  overflow   : Bool
  delivery   : List Nat
  ready      : List Answer
  out        : Option OutFrame
  stall      : Timer
deriving DecidableEq, Repr

inductive Direction where
  | upward | downward
deriving DecidableEq, Repr

/-- The Work List (R38, R39, R50, R42, R108); the records stand in acceptance order. -/
structure WorkList where
  records       : List Record
  nextSeq       : Nat
  sweep         : Direction
  commitPending : Bool
  deferred      : PerChannel (Option DeferredRecord)
deriving DecidableEq, Repr

/-- A claim state (R67). In WANTED the waiter is the channel other than the holder; in HANDING-OVER the mark says
whether the other channel waits, which is whether it is the drain target. -/
inductive Claim where
  | free
  | held (holder : Channel)
  | wanted (holder : Channel) (timer : Timer)
  | handingOver (holder : Channel) (toWaiter : Bool)
deriving DecidableEq, Repr

/-- The Table Store (R138). -/
structure TableStore where
  staged           : TableSet
  active           : TableSet
  mode             : Mode
  remapUnconfirmed : Bool
deriving DecidableEq, Repr

/-- A physical address (R1). -/
structure Location where
  cylinder : Nat
  head     : Nat
  sector   : Nat
deriving DecidableEq, Repr

/-- The sector in hand: its LSA and its translated location (R85). -/
structure Sector where
  lsa : Nat
  loc : Location
deriving DecidableEq, Repr

/-- What a header search is for (R89). -/
inductive Purpose where
  | read | write | reread
deriving DecidableEq, Repr

/-- Where the work of the ACTIVE record stands: waiting for a seek-complete, for a header, for the end of a field, for
the index pulse of a format, or for the end of a slot (R87 to R95). A recalibration is followed by a seek to its target,
and its success clears the recalibration-pending mark where the mark was its cause (R88). -/
inductive Phase where
  | recalibrating (target : Nat) (forMark : Bool)
  | seeking (target : Nat)
  | searching (pulses : Nat)
  | reading
  | writing
  | rereading
  | awaitingIndex
  | formatting (slot : Nat)
deriving DecidableEq, Repr

/-- A pending stop (R102). -/
inductive Stop where
  | level2 (sender : Channel)
  | fallback
deriving DecidableEq, Repr

/-- The items of the Engine that belong to an ACTIVE period (R85). -/
structure Work where
  seq         : Nat
  phase       : Phase
  purpose     : Purpose
  inHand      : Option Sector
  retry       : Nat
  recovery    : Bool
  rewrite     : Bool
  stop        : Option Stop
  soft        : Bool
  unconfirmed : Bool
  verifyFlag  : Bool
deriving DecidableEq, Repr

/-- The Transfer Engine (R85). -/
structure Engine where
  cylinder     : Nat
  recalPending : Bool
  work         : Option Work
deriving DecidableEq, Repr

/-- What the heads are doing (R119). -/
inductive Heads where
  | unloaded | loading | loaded | unloading
deriving DecidableEq, Repr

/-- The Drive Sequencer (R119, R120, R123, R130, R135). `restedOff` says that since the spindle's last start, or since
power-on, it has been reported at rest after it was commanded off: the report that starts the cool-down timer (R121,
R131; log 45). -/
structure Sequencer where
  state            : SeqState
  targetOn         : Bool
  unloadIdle       : Bool
  cartridgeLine    : Bool
  cartridgePresent : Bool
  supplyGood       : Bool
  writeFaultLine   : Bool
  spindleOn        : Bool
  atRest           : Bool
  restedOff        : Bool
  interlockLocked  : Bool
  heads            : Heads
  coolDown         : Timer
  spinUp           : Timer
  headLoad         : Timer
  recalWait        : Timer
  unloadWait       : Timer
  readyWait        : Timer
  idle             : Timer
  inTolerance      : Nat
  outOfTolerance   : Nat
  pulseSeen        : Bool
  alreadyCounted   : Bool
  clearing         : Bool
  clearCount       : Nat
deriving DecidableEq, Repr

/-- Media Watch (R157). -/
structure Media where
  counted         : Nat
  retried         : Nat
  threshold       : Nat
  tripWindows     : Nat
  consecutive     : Nat
  degraded        : Bool
  suspects        : List Suspect
  suspectOverflow : Bool
deriving DecidableEq, Repr

/-- What the block sends to the drive over the drive interface (R1, R2, R5, R87, R88, R90 to R95, R121 to R130,
10.7). -/
inductive DriveCmd where
  | spindleOn
  | spindleOff
  | lockInterlock
  | unlockInterlock
  | headsOn
  | headsOff
  | emergencyUnload
  | recalibrate
  | seek (cylinder : Nat)
  | selectHead (head : Nat)
  | faultClear
  /-- The data field and the data check word of a location are read (R1, R90, R91, R94). -/
  | readField (loc : Location)
  /-- A data field and its check word, written at a location whose header stays as it is (R2, R5). -/
  | writeField (loc : Location) (words : List Word) (check : Word)
  /-- A format slot: the header's two address words and check word, and the data field of copies of the fill word
  with its check word (R3, R95). -/
  | writeSlot (loc : Location) (header : List Word) (headerCheck : Word) (fill : Word) (check : Word)
deriving DecidableEq, Repr

/-- The nine blocks, the level-3 operation with its sender (R175), and the commands sent to the drive so far. -/
structure Controller where
  ports    : PerChannel Port
  work     : WorkList
  buffers  : Vector (List Word) 12
  claims   : Vector (Option Claim) 16
  tables   : TableStore
  engine   : Engine
  drive    : Sequencer
  media    : Media
  level3   : Option Channel
  driveOut : List DriveCmd
deriving DecidableEq, Repr

/-- The state: the block, and the commands that wait for it, first in, first out. -/
structure State where
  ctl     : Controller
  pending : List Instr
deriving DecidableEq, Repr

/-- Reasons for a step to stop with a fault. The block has none: every rule gives every command a next state (log 35). -/
inductive Fault where
deriving DecidableEq, Repr

/-- Reasons for a step to be refused. -/
inductive Refusal where
  /-- Raised by an arm of exec whose command has no meaning yet; safe. No arm raises it: every row has its meaning. -/
  | notModelled (mnemonic : String)
deriving DecidableEq, Repr

/-- A Channel Port at power-on (R166, R180). -/
def Port.powerOn : Port :=
  { link := .detached, inbound := [], escalation := none, errorCount := 0, notices := [.fallback .powerOn]
    overflow := false, delivery := [], ready := [], out := none, stall := none }

/-- The Work List at power-on (R60). -/
def WorkList.powerOn : WorkList :=
  { records := [], nextSeq := 0, sweep := .upward, commitPending := false, deferred := { a := none, b := none } }

/-- The Drive Sequencer at power-on, with its three lines as found (R119, R121, R135, R136). -/
def Sequencer.powerOn (cartridge supply writeFault : Bool) : Sequencer :=
  { state := .cooling, targetOn := false, unloadIdle := false, cartridgeLine := cartridge
    cartridgePresent := cartridge, supplyGood := supply, writeFaultLine := writeFault, spindleOn := false
    atRest := true, restedOff := true, interlockLocked := false, heads := .unloaded
    coolDown := some (defaultDrive.coolDown * Config.tenthMs), spinUp := none, headLoad := none, recalWait := none
    unloadWait := none, readyWait := none, idle := none, inTolerance := 0, outOfTolerance := 0, pulseSeen := false
    alreadyCounted := false, clearing := false, clearCount := 0 }

/-- Media Watch at power-on (R157). -/
def Media.powerOn : Media :=
  { counted := 0, retried := 0, threshold := Config.defaultThreshold, tripWindows := Config.defaultTripWindows
    consecutive := 0, degraded := false, suspects := [], suspectOverflow := false }

/-- The block at power-on (R180). The buffers' contents, which no rule gives, are 0 (DESIGN CHOICE, log 6). -/
def Controller.powerOn (cartridge supply writeFault : Bool) : Controller :=
  { ports := { a := .powerOn, b := .powerOn }
    work := .powerOn
    buffers := Vector.replicate 12 (List.replicate Config.wordsPerSector 0#16)
    claims := Vector.replicate 16 none
    tables := { staged := fallbackSet, active := fallbackSet, mode := .fallback .powerOn, remapUnconfirmed := true }
    engine := { cylinder := 0, recalPending := false, work := none }
    drive := .powerOn cartridge supply writeFault
    media := .powerOn
    level3 := none
    driveOut := [] }

/-- The machine right after reset: power-on with a cartridge present, the supply good and the write-fault line down
(DESIGN CHOICE, log 5), and no command waiting. -/
def State.reset : State := { ctl := .powerOn true true false, pending := [] }

end Sys2Proof.Machine
end

