-- ==== Sys2Proof/Machine/Layouts.lean ====
section
/-! DEFINITION. The numbers of named values and the words of the outbound frames (R177, R178). Bits that no field
takes are a free value (log 7). -/

namespace Sys2Proof.Machine

/-- Function codes (R177). -/
def Func.code : Func → Nat
  | .null => 0 | .read => 1 | .write => 2 | .verify => 3 | .formatTrack => 4 | .seek => 5 | .sync => 6 | .claim => 7
  | .yield => 8 | .keep => 9 | .release => 10 | .status => 11 | .readSuspect => 12 | .readTable => 13
  | .loadTable => 14 | .copyActive => 15 | .commit => 16 | .setDriveTarget => 17 | .clearDeferred => 18
  | .clearSuspect => 19 | .clearMonitor => 20

/-- The defined functions in the order of their codes (R177). -/
def Func.all : List Func :=
  [.null, .read, .write, .verify, .formatTrack, .seek, .sync, .claim, .yield, .keep, .release, .status, .readSuspect,
    .readTable, .loadTable, .copyActive, .commit, .setDriveTarget, .clearDeferred, .clearSuspect, .clearMonitor]

/-- The function of a code; the codes above 20 name none (R177). -/
def Func.ofCode? (code : Nat) : Option Func := Func.all[code]?

/-- An order as the Checker takes it: the function is absent for an undefined code. -/
structure Order where
  channel : Channel
  frame   : OrderFrame
  code    : BitVec 6
  fn      : Option Func
deriving DecidableEq, Repr

/-- An order of a defined function. -/
def Order.of (fn : Func) (ch : Channel) (f : OrderFrame) : Order :=
  { channel := ch, frame := f, code := BitVec.ofNat 6 fn.code, fn := some fn }

/-- The function of a request record (R38). -/
def Job.func : Job → Func
  | .read _ _ => .read
  | .write _ _ => .write
  | .verify _ _ => .verify
  | .formatTrack _ _ _ => .formatTrack
  | .seek _ => .seek
  | .sync => .sync
  | .claim => .claim
  | .commit => .commit

/-- Answer codes 0..32 (R178). -/
def AnswerCode.value : AnswerCode → Nat
  | .done => 0 | .short => 1 | .refusedFunction => 2 | .refusedRange => 3 | .refusedClass => 4 | .refusedTag => 5
  | .refusedExtent => 6 | .refusedRights => 7 | .refusedClaim => 8 | .refusedDriveOff => 9 | .refusedListFull => 10
  | .refusedBuffers => 11 | .refusedResetting => 12 | .revoked => 13 | .claimLost => 14 | .notReady => 15
  | .driveFault => 16 | .aborted => 17 | .reset => 18 | .granted => 19 | .kept => 20 | .cancelled => 21
  | .alreadyHeld => 22 | .claimPending => 23 | .notExclusive => 24 | .tooLate => 25 | .notHolder => 26 | .staged => 27
  | .entryRange => 28 | .stageLocked => 29 | .committed => 30 | .commitFailed => 31 | .commitPending => 32

/-- Error kinds 1..12 in the order of R34; 0 is absent (R178). -/
def ErrorKind.value : ErrorKind → Nat
  | .dataCheck => 1 | .header => 2 | .seek => 3 | .writeFault => 4 | .writeVerify => 5 | .torn => 6 | .speed => 7
  | .supply => 8 | .notReady => 9 | .revoked => 10 | .tableFault => 11 | .stalled => 12

/-- Failure reasons 1..6 in the order of R147 (R178). -/
def CommitReason.value : CommitReason → Nat
  | .stageDamaged => 1 | .bounds => 2 | .overlap => 3 | .remapOrder => 4 | .spareReused => 5 | .noManager => 6

/-- Kinds of a suspect entry (R178). -/
def SuspectKind.value : SuspectKind → Nat
  | .soft => 0 | .dataCheck => 1 | .header => 2 | .writeVerify => 3 | .torn => 4

/-- A channel as a number: 0 is A (00_scope.md 4). -/
def channelValue : Channel → Nat
  | .a => 0
  | .b => 1

def LinkState.value : LinkState → Nat
  | .detached => 0 | .attached => 1 | .recovering => 2

/-- Sequencer states 0..8 in the order of R119 (R178). -/
def SeqState.value : SeqState → Nat
  | .cooling => 0 | .stopped => 1 | .spinningUp => 2 | .loadingHeads => 3 | .ready => 4 | .unloading => 5
  | .parked => 6 | .spinningDown => 7 | .faulted _ => 8

/-- Faults 1..3, 0 outside FAULTED (R178). -/
def SeqState.faultValue : SeqState → Nat
  | .faulted .spinUp => 1
  | .faulted .recal => 2
  | .faulted .writeFault => 3
  | _ => 0

/-- Fallback reasons 1..4 (R178, NOTICE). -/
def FallbackReason.value : FallbackReason → Nat
  | .powerOn => 1 | .reset => 2 | .tableFault => 3 | .packChanged => 4

/-- The reason field of the status block: as in the NOTICE frame, 0 in NORMAL (DEDUCED, log 9). -/
def Mode.reasonValue : Mode → Nat
  | .normal => 0
  | .fallback r => r.value

def Mode.isFallback : Mode → Bool
  | .normal => false
  | .fallback _ => true

/-- Claim states 0..3 in the order of R67. -/
def ClaimName.value : ClaimName → Nat
  | .free => 0 | .held => 1 | .wanted => 2 | .handingOver => 3

/-- Notice kinds 1..10 in the order of R171. -/
def Notice.kind : Notice → Nat
  | .claimWanted _ => 1 | .claimLost _ => 2 | .tablesCommitted => 3 | .driveState _ => 4 | .mediaDegrading => 5
  | .fallback _ => 6 | .deferredError _ => 7 | .resetDone _ _ => 8 | .linkAttached _ => 9 | .suspectAdded _ => 10

/-- An outbound word whose fields leave the bits of `rest` open (log 7). -/
def openWord (o : OpenWord) (rest : Word) (fields : List Nat) : Word :=
  word fields ||| (Config.unusedBits o (word fields) &&& rest)

/-- The payload word of a notice (R178). -/
def Notice.payload : Notice → Word
  | .claimWanted e => word [e]
  | .claimLost e => word [e]
  | .tablesCommitted => 0#16
  | .driveState s => openWord .driveState 0xFFC0#16 [s.value, place s.faultValue 4]
  | .mediaDegrading => 0#16
  | .fallback r => word [r.value]
  | .deferredError t => word [t.toNat]
  | .resetDone l c => openWord .resetDone 0x00FE#16 [place l 8, channelValue c]
  | .linkAttached c => word [channelValue c]
  | .suspectAdded l => word [l]

/-- Word 0 of a frame: type 15..13, length of the whole frame 12..0 (R177). -/
def frameHead (type length : Nat) : Word := word [place type 13, length]

/-- A NOTICE frame, length 3 (R178). -/
def noticeFrame (n : Notice) : List Word := [frameHead 6 3, word [n.kind], n.payload]

/-- A DATA frame, length 259 (R178): tag and position, LSA, the sector's data words. -/
def dataFrame (tag : BitVec 8) (position lsa : Nat) (data : List Word) : List Word :=
  frameHead 5 259 :: openWord .dataPosition 0x00F8#16 [place tag.toNat 8, position] :: word [lsa] :: data

/-- The fields of an absent channel are 0 (log 9); present 1 in the bit above, channel in the bit below (R178, s6). -/
def optChannelValue (c : Option Channel) (presentBit : Nat) : Nat :=
  match c with
  | none => 0
  | some ch => place 1 presentBit + place (channelValue ch) (presentBit - 1)

def ClaimEntry.word (e : ClaimEntry) : Word :=
  openWord .claimEntry 0x003F#16
    [place e.extent 12, place e.state.value 10, optChannelValue e.holder 9, optChannelValue e.waiter 7]

/-- The words s0.. of a status block (R178). -/
def StatusBlock.words (s : StatusBlock) : List Word :=
  [ word [place (channelValue s.channel) 15, place s.linkA.value 13, place s.linkB.value 11,
      place (flag s.management) 10, place (flag s.overflow) 9, place (flag s.mode.isFallback) 8,
      place s.mode.reasonValue 5, place (flag s.unconfirmed) 4, place (flag s.commitPending) 3,
      place (flag s.cartridge) 2, place (flag s.targetOn) 1, flag s.targetPending],
    word [place s.errorCount 8, place s.state.value 4, place s.state.faultValue 2, place (flag s.degraded) 1,
      flag s.suspectOverflow],
    word [s.cylinder],
    word [place s.records 11, place s.ownRecords 6, place s.ownLingering 1, flag s.deferredSet],
    word [place s.freeBuffers 12, place s.ownBuffers 8, place s.suspects 4, s.consecutive],
    openWord .readCounts 0x000F#16 [place s.counted 10, place s.retried 4],
    word [s.claims.length] ] ++ s.claims.map (·.word)

/-- The two words of a suspect entry (R178). -/
def Suspect.words (s : Suspect) : List Word :=
  [word [s.lsa], openWord .suspectEntry 0x00FE#16 [place s.kind.value 12, place s.count 8, channelValue s.channel]]

/-- The mark word of an entry list: bit i is 1 when entry i failed parity (R178). -/
def markWord (entries : List ListedEntry) : Word :=
  word (entries.zipIdx.map fun p => place (flag p.1.failed) p.2)

def AnswerBody.words : AnswerBody → List Word
  | .none => []
  | .status s => s.words
  | .table es => word [es.length] :: markWord es :: es.flatMap (·.words)
  | .suspects es => word [es.length] :: 0#16 :: es.flatMap (·.words)

/-- The deferred record in an answer (R178): one word for each of its four fields, the kind numbered as in the answer's
third word (DEDUCED, log 44). -/
def DeferredRecord.words (d : DeferredRecord) : List Word :=
  [word [d.tag.toNat], word [d.lsa], word [d.kind.value], word [d.further]]

/-- The words of an ANSWER frame after word 0 (R178). -/
def Answer.tail (a : Answer) : List Word :=
  [ word [place a.tag.toNat 8, a.func.toNat],
    openWord .answerCode 0x0007#16
      [place a.code.value 10, place a.done 6, place (flag a.soft) 5, place (flag a.unconfirmed) 4,
        place (flag a.early) 3],
    openWord .answerKind 0x001F#16
      [place ((a.kind.map (·.value)).getD 0) 12, place ((a.reason.map (·.value)).getD 0) 8,
        place (flag a.lsa.isSome) 7, place (flag a.index.isSome) 6, place (flag a.deferred.isSome) 5] ]
  ++ (a.lsa.map fun l => word [l]).toList
  ++ (a.index.map fun i => word [i]).toList
  ++ (a.deferred.map (·.words)).getD []
  ++ a.body.words

/-- An ANSWER frame (R178). -/
def answerFrame (a : Answer) : List Word := frameHead 4 (a.tail.length + 1) :: a.tail

end Sys2Proof.Machine
end

