-- ==== Sys2Proof/WellFormed.lean ====
section
/-! DEFINITION. Which commands the world outside can send: the checks on a command's operands that no rule of the
block makes, because the frame layout, the geometry or the drive already hold them. -/

namespace Sys2Proof

/-- A frame's length has 13 bits and counts words 0 and 1 (R177). -/
def OrderFrame.wellFormed (f : OrderFrame) : Bool := decide (f.words.length + 2 ≤ 8191)

/-- The operands of a command are in the ranges that the frame layouts and the drive give them. -/
def Instr.wellFormed : Instr → Bool
  | .undefinedFunction _ code f => decide (21 ≤ code.toNat) && f.wellFormed
  | .null _ f | .read _ f | .write _ f | .verify _ f | .formatTrack _ f | .seek _ f | .sync _ f | .claim _ f
  | .yield _ f | .keep _ f | .release _ f | .status _ f | .readSuspect _ f | .readTable _ f | .loadTable _ f
  | .copyActive _ f | .commit _ f | .setDriveTarget _ f | .clearDeferred _ f | .clearSuspect _ f
  | .clearMonitor _ f => f.wellFormed
  | .drainEnd e | .yieldTimerExpiry e => decide (e < 16)
  | .dataFieldRead words _ | .verifyRereadDone words _ => decide (words.length = Config.wordsPerSector)
  | .powerOn _ _ _ | .linkPresentRises _ | .linkPresentFalls _ | .frameDiscarded _ _ | .resetLevel1 _
  | .resetLevel2 _ | .resetLevel3 _ | .level3Values | .escalationTimerExpiry _ | .outboundWordTaken _
  | .stallLimit _ | .arbiterChoice | .commitQuietPoint | .syncCompletion _ | .targetOffFlushDone | .seekComplete
  | .seekTimeout | .recalibrationTimeout | .loadingRecalTimeout | .indexPulse _ _ | .missingPulse | .headerRead _ _ _ _
  | .dataFieldWritten | .formatSlotWritten | .writeFault | .faultClearWaitExpiry _ | .supplyLow | .supplyReturn
  | .cartridgeInserted | .cartridgeRemoved | .spindleAtRest | .coolDownExpiry | .spinUpLimitExpiry
  | .headLoadExpiry | .unloadComplete | .idleExpiry | .readyWaitExpiry => true

end Sys2Proof
end

