-- ==== Sys2Proof/Decode.lean ====
section
/-! DEFINITION. From inbound frames to commands and back (R15, R167, R177); and the command that a word spells by the
table's bits. No row of spec/opcode_table.json gives bits ("n_rows_with_fixed": 0 in 98_reader.md), so no word spells
one. -/

namespace Sys2Proof

open Machine

/-! The orders among the commands. -/

/-- The order that a command brings to the Checker. -/
def Instr.order? : Instr → Option Machine.Order
  | .undefinedFunction ch code f => some { channel := ch, frame := f, code := code, fn := none }
  | .null ch f => some (.of .null ch f)
  | .read ch f => some (.of .read ch f)
  | .write ch f => some (.of .write ch f)
  | .verify ch f => some (.of .verify ch f)
  | .formatTrack ch f => some (.of .formatTrack ch f)
  | .seek ch f => some (.of .seek ch f)
  | .sync ch f => some (.of .sync ch f)
  | .claim ch f => some (.of .claim ch f)
  | .yield ch f => some (.of .yield ch f)
  | .keep ch f => some (.of .keep ch f)
  | .release ch f => some (.of .release ch f)
  | .status ch f => some (.of .status ch f)
  | .readSuspect ch f => some (.of .readSuspect ch f)
  | .readTable ch f => some (.of .readTable ch f)
  | .loadTable ch f => some (.of .loadTable ch f)
  | .copyActive ch f => some (.of .copyActive ch f)
  | .commit ch f => some (.of .commit ch f)
  | .setDriveTarget ch f => some (.of .setDriveTarget ch f)
  | .clearDeferred ch f => some (.of .clearDeferred ch f)
  | .clearSuspect ch f => some (.of .clearSuspect ch f)
  | .clearMonitor ch f => some (.of .clearMonitor ch f)
  | _ => none

/-- The command of an order of a defined function. -/
def Instr.ofFunc : Func → Channel → OrderFrame → Instr
  | .null => .null
  | .read => .read
  | .write => .write
  | .verify => .verify
  | .formatTrack => .formatTrack
  | .seek => .seek
  | .sync => .sync
  | .claim => .claim
  | .yield => .yield
  | .keep => .keep
  | .release => .release
  | .status => .status
  | .readSuspect => .readSuspect
  | .readTable => .readTable
  | .loadTable => .loadTable
  | .copyActive => .copyActive
  | .commit => .commit
  | .setDriveTarget => .setDriveTarget
  | .clearDeferred => .clearDeferred
  | .clearSuspect => .clearSuspect
  | .clearMonitor => .clearMonitor

/-- The command of an order with a function code as received (R21, R177). -/
def Instr.ofCode (ch : Channel) (code : BitVec 6) (f : OrderFrame) : Instr :=
  match Func.ofCode? code.toNat with
  | some fn => .ofFunc fn ch f
  | none => .undefinedFunction ch code f

/-! Decoding (R167, R177). -/

/-- The ORDER frame with this word 1 and these words from word 2 on: tag 15..8, function code 7..2, class 1..0. -/
def decodeOrder (ch : Channel) (head : Word) (rest : List Word) : Instr :=
  .ofCode ch (BitVec.ofNat 6 (field head 7 2))
    { tag := BitVec.ofNat 8 (field head 15 8), cls := BitVec.ofNat 2 (field head 1 0), words := rest }

/-- The RESET frame with this word 1, which is the level; one outside 1..3 is discarded. -/
def decodeReset (ch : Channel) (level : Word) : Instr :=
  match level.toNat with
  | 1 => .resetLevel1 ch
  | 2 => .resetLevel2 ch
  | 3 => .resetLevel3 ch
  | _ => .frameDiscarded ch .badResetLevel

/-- What a port makes of the words of one inbound frame, all of good parity and the first alone marked: word 0 holds the
type in bits 15..13 (0 ORDER, 1 RESET) and the length of the whole frame in bits 12..0. Nothing yet while the words are
fewer than that length. The other causes of a discarded frame, a parity error and a mark out of place, lie on lines that
carry no word. -/
def decodeFrame (ch : Channel) : List Word → Option Instr
  | [] => none
  | head :: rest =>
    let type := field head 15 13
    let length := field head 12 0
    if 1 < type then some (.frameDiscarded ch .badType)
    else if length < 2 then some (.frameDiscarded ch .lengthBelowTwo)
    else if type = 1 && length != 2 then some (.frameDiscarded ch .badResetLength)
    else if rest.length + 1 ≠ length then none
    else rest.head?.map fun second =>
      if type = 0 then decodeOrder ch second rest.tail else decodeReset ch second

/-! Encoding (R177). -/

/-- The words of an ORDER frame. -/
def Machine.Order.frameWords (o : Order) : List Word :=
  frameHead 0 (o.frame.words.length + 2)
    :: word [place o.frame.tag.toNat 8, place o.code.toNat 2, o.frame.cls.toNat] :: o.frame.words

/-- The words of a RESET frame. -/
def resetFrameWords (level : Nat) : List Word := [frameHead 1 2, word [level]]

/-- The channel and the words of the frame that a command is; none for the commands that are no frame. -/
def Instr.frame? : Instr → Option (Channel × List Word)
  | .resetLevel1 ch => some (ch, resetFrameWords 1)
  | .resetLevel2 ch => some (ch, resetFrameWords 2)
  | .resetLevel3 ch => some (ch, resetFrameWords 3)
  | i => i.order?.map fun o => (o.channel, o.frameWords)

/-! Receiving. -/

/-- A port that has received these words passes the command they are to the block: it waits at the end of the queue (R15,
R167). -/
def Machine.State.receive (s : State) (ch : Channel) (words : List Word) : State :=
  { s with pending := s.pending ++ (decodeFrame ch words).toList }

/-! Words of the table. -/

/-- The command whose bits are `w`: none, since the table gives no row any bits. -/
def decodeTableWord (_nbits _w : Nat) : Option Instr := none

end Sys2Proof
end

