-- ==== Sys2Proof/Machine/Operands.lean ====
section
/-! DEFINITION. The operand forms of the orders: the fields that the words of an ORDER frame carry (R177), held to the
ranges of R18 and R19 (check 3 without the limits of the Channel Record), and what a disk order covers (R18). -/

namespace Sys2Proof.Machine

/-- Which of the two sets a READ-TABLE names. -/
inductive SetId where
  | staged | active
deriving DecidableEq, Repr

/-- The fields of an order, in range. -/
inductive Operands where
  | none
  | sectors (start count : Nat)
  | writeData (start count : Nat) (data : List Word)
  | track (cylinder head : Nat) (fill : Word)
  | lsa (n : Nat)
  | extent (n : Nat)
  | load (table : TableId) (start : Nat) (entries : List (List Word))
  | list (table : TableId) (set : SetId) (start count : Nat)
  | target (on : Bool)
  | suspect (n : Nat)
  | suspectAll
deriving DecidableEq, Repr

/-- The range of READ, VERIFY and WRITE: count 1..8, last LSA at or below 19,199 (R18). -/
def sectorRangeOk (start count : Nat) : Bool :=
  decide (1 ≤ count) && decide (count ≤ 8) && decide (start + count - 1 ≤ Config.lastLsa)

/-- A run of words cut into entries of `size` words, `n` of them. -/
def cutEntries (size : Nat) : Nat → List Word → List (List Word)
  | 0, _ => []
  | n + 1, ws => ws.take size :: cutEntries size n (ws.drop size)

/-- READ and VERIFY: start LSA, count. -/
def parseSectors : List Word → Option Operands
  | s :: n :: _ => if sectorRangeOk s.toNat n.toNat then some (.sectors s.toNat n.toNat) else Option.none
  | _ => Option.none

/-- WRITE: start LSA, count, and a data list of exactly count x 256 words (R22). -/
def parseWrite : List Word → Option Operands
  | s :: n :: data =>
    if sectorRangeOk s.toNat n.toNat && decide (data.length = n.toNat * Config.wordsPerSector) then
      some (.writeData s.toNat n.toNat data)
    else Option.none
  | _ => Option.none

/-- FORMAT-TRACK: cylinder 0..407, head 0 or 1, any fill word. -/
def parseTrack : List Word → Option Operands
  | cyl :: hd :: fill :: _ =>
    if decide (cyl.toNat ≤ Config.lastCylinder) && decide (hd.toNat ≤ 1) then some (.track cyl.toNat hd.toNat fill)
    else Option.none
  | _ => Option.none

/-- SEEK: start LSA; the count field is ignored, present or not (log 27). -/
def parseLsa : List Word → Option Operands
  | s :: _ => if s.toNat ≤ Config.lastLsa then some (.lsa s.toNat) else Option.none
  | _ => Option.none

/-- CLAIM, YIELD, KEEP, RELEASE: extent number 0..15. -/
def parseExtent : List Word → Option Operands
  | e :: _ => if e.toNat ≤ 15 then some (.extent e.toNat) else Option.none
  | _ => Option.none

/-- LOAD-TABLE: table, start index, number of entries 1..16, the entries; the last index is not passed (R19). -/
def parseLoad : List Word → Option Operands
  | t :: s :: n :: ws =>
    match TableId.ofNat? t.toNat with
    | some table =>
      if decide (1 ≤ n.toNat) && decide (n.toNat ≤ 16) && decide (s.toNat + n.toNat - 1 ≤ table.lastIndex)
          && decide (n.toNat * table.entryWords ≤ ws.length) then
        some (.load table s.toNat (cutEntries table.entryWords n.toNat ws))
      else Option.none
    | Option.none => Option.none
  | _ => Option.none

def SetId.ofNat? : Nat → Option SetId
  | 0 => some .staged
  | 1 => some .active
  | _ => Option.none

/-- READ-TABLE: table, set, start index not above the last index, count 1..16 (R19). -/
def parseList : List Word → Option Operands
  | t :: st :: s :: n :: _ =>
    match TableId.ofNat? t.toNat, SetId.ofNat? st.toNat with
    | some table, some set =>
      if decide (s.toNat ≤ table.lastIndex) && decide (1 ≤ n.toNat) && decide (n.toNat ≤ 16) then
        some (.list table set s.toNat n.toNat)
      else Option.none
    | _, _ => Option.none
  | _ => Option.none

/-- SET-DRIVE-TARGET: 0 OFF, 1 ON. -/
def parseTarget : List Word → Option Operands
  | t :: _ => if t.toNat = 0 then some (.target false) else if t.toNat = 1 then some (.target true) else Option.none
  | _ => Option.none

/-- CLEAR-SUSPECT: an LSA, or 65535 for ALL. -/
def parseSuspect : List Word → Option Operands
  | l :: _ =>
    if l.toNat = 65535 then some .suspectAll
    else if l.toNat ≤ Config.lastLsa then some (.suspect l.toNat) else Option.none
  | _ => Option.none

/-- The fields of an order of each function, or none where a field is out of range or missing (R18, R19, R167). -/
def parseOperands (fn : Func) (ws : List Word) : Option Operands :=
  match fn with
  | .read | .verify => parseSectors ws
  | .write => parseWrite ws
  | .formatTrack => parseTrack ws
  | .seek => parseLsa ws
  | .claim | .yield | .keep | .release => parseExtent ws
  | .loadTable => parseLoad ws
  | .readTable => parseList ws
  | .setDriveTarget => parseTarget ws
  | .clearSuspect => parseSuspect ws
  | .null | .sync | .status | .readSuspect | .copyActive | .commit | .clearDeferred | .clearMonitor =>
    some .none

/-- The range of a disk order (R18): lowest and highest LSA; none for a spare track and for the other functions. -/
def Operands.range : Operands → Option (Nat × Nat)
  | .sectors s n => some (s, s + n - 1)
  | .writeData s n _ => some (s, s + n - 1)
  | .lsa n => some (n, n)
  | .track cyl hd _ =>
    if cyl < Config.firstSpareCylinder then
      let first := cyl * Config.sectorsPerCylinder + hd * Config.sectorsPerTrack
      some (first, first + 23)
    else Option.none
  | _ => Option.none

/-- The five disk functions (R17). -/
def Func.isDisk : Func → Bool
  | .read | .write | .verify | .formatTrack | .seek => true
  | _ => false

/-- The management functions (R21). -/
def Func.isManagement : Func → Bool
  | .loadTable | .copyActive | .commit | .setDriveTarget | .clearDeferred | .clearSuspect | .clearMonitor => true
  | _ => false

/-- The functions that check 1 refuses in RECOVERING (R168). -/
def Func.waitsOutRecovery : Func → Bool
  | .read | .write | .verify | .formatTrack | .seek | .sync | .claim | .commit => true
  | _ => false

/-! What a request record covers (R38, R47, R50). -/

/-- The range of a record is the range of its order (R38). -/
def Job.range : Job → Option (Nat × Nat)
  | .read s n | .write s n | .verify s n => some (s, s + n - 1)
  | .seek l => some (l, l)
  | .formatTrack cyl hd _ =>
    if cyl < Config.firstSpareCylinder then
      let first := cyl * Config.sectorsPerCylinder + hd * Config.sectorsPerTrack
      some (first, first + 23)
    else Option.none
  | .sync | .claim | .commit => Option.none

/-- The first LSA of the order; 0 for the functions that have none. -/
def Job.start : Job → Nat
  | .read s _ | .write s _ | .verify s _ => s
  | .seek l => l
  | .formatTrack _ _ _ | .sync | .claim | .commit => 0

/-- Sectors of the order; 0 for the functions that count none. -/
def Job.count : Job → Nat
  | .read _ n | .write _ n | .verify _ n => n
  | .formatTrack _ _ _ | .seek _ | .sync | .claim | .commit => 0

/-- A record with a non-empty range is a disk record (R38; a spare-track FORMAT-TRACK is none, log 11). -/
def Record.isDisk (r : Record) : Bool := r.job.range.isSome

/-- A disk record is writing when its function is WRITE or FORMAT-TRACK (R38). -/
def Record.isWriting (r : Record) : Bool :=
  match r.job with
  | .write _ _ => true
  | .formatTrack _ _ _ => r.isDisk
  | _ => false

/-- The cylinder of a record for the sweep (R50). -/
def Record.cylinder (r : Record) : Nat :=
  match r.job with
  | .formatTrack cyl _ _ => cyl
  | _ => r.job.start / Config.sectorsPerCylinder

/-- Two ranges share an LSA. -/
def rangesOverlap (p q : Option (Nat × Nat)) : Bool :=
  match p, q with
  | some (a, b), some (c, d) => decide (a ≤ d) && decide (c ≤ b)
  | _, _ => false

/-! Addresses (R6, R7, R9, R10). -/

/-- The direct location of an LSA (R6). -/
def directLocation (lsa : Nat) : Location :=
  { cylinder := lsa / 48, head := (lsa / 24) % 2, sector := lsa % 24 }

/-- The location of a spare index (R7). -/
def spareLocation (s : Nat) : Location :=
  { cylinder := 400 + s / 48, head := (s / 24) % 2, sector := s % 24 }

/-- The translation of an LSA through the positions in ascending order (R9); none where a word read fails parity
(R10). -/
def translate (lsa : Nat) : List RemapEntry → Option Location
  | [] => some (directLocation lsa)
  | e :: es =>
    if !e.good then Option.none
    else if !e.used then some (directLocation lsa)
    else if lsa < e.lsa then some (directLocation lsa)
    else if e.lsa = lsa then some (spareLocation e.spare)
    else translate lsa es

end Sys2Proof.Machine
end

