-- ==== Sys2Proof/Machine/Flags.lean ====
section
/-! DEFINITION. The conditions the block computes from its state: record states, drain counts, buffer and slot counts,
liveness of tags, the target-pending flag, the revolution tolerance, the conditions of the ready-wait and idle timers,
and the status block (R24, R35, R41, R43, R45, R59, R106, R120, R123, R127, R132). -/

namespace Sys2Proof.Machine

/-! Records. -/

def Controller.records (c : Controller) : List Record := c.work.records

/-- The record with an acceptance sequence number. -/
def Controller.findRecord (c : Controller) (seq : Nat) : Option Record := c.records.find? (·.seq == seq)

/-- Some record is in the state. -/
def Controller.anyIn (c : Controller) (st : RecState) : Bool := c.records.any (·.state == st)

/-- A record is live for check 5 in every state but LINGERING (R24). -/
def Record.live (r : Record) : Bool := r.state != .lingering

/-- The tag is the tag of a live record of the channel (R24). -/
def Controller.tagLive (c : Controller) (ch : Channel) (tag : BitVec 8) : Bool :=
  c.records.any fun r => r.channel == ch && r.tag == tag && r.live

/-- Records of a channel, which is its slots (R41). -/
def Controller.slots (c : Controller) (ch : Channel) : Nat := (c.records.filter (·.channel == ch)).length

/-- An unwritten early write of the channel (R106). -/
def Record.unwrittenEarly (r : Record) (ch : Channel) : Bool := r.channel == ch && r.early

/-- A record that counts in the drain of a channel for an extent (R59). -/
def Record.inDrain (r : Record) (ch : Channel) (extent : Nat) : Bool :=
  r.channel == ch && r.isWriting && r.extent == some extent && (r.state == .lingering || r.state == .active)

/-- The drain count of a channel for an extent (R59). -/
def Controller.drainCount (c : Controller) (ch : Channel) (extent : Nat) : Nat :=
  (c.records.filter (·.inDrain ch extent)).length

/-! Buffers. -/

/-- The buffers on the buffer lists of all records (R43). -/
def Controller.heldBuffers (c : Controller) : List Nat := c.records.flatMap (·.buffers)

/-- The free buffers in ascending number (R43). -/
def Controller.freeBuffers (c : Controller) : List Nat := (List.range 12).filter fun i => !c.heldBuffers.contains i

/-- The number of buffers held by a channel (R45). -/
def Controller.channelBuffers (c : Controller) (ch : Channel) : Nat :=
  ((c.records.filter (·.channel == ch)).flatMap (·.buffers)).length

/-- The words of a buffer. -/
def Controller.bufferWords (c : Controller) (i : Nat) : List Word := c.buffers[i]?.getD []

/-! Ports, tables, claims, the ACTIVE record. -/

def Controller.port (c : Controller) (ch : Channel) : Port := c.ports.get ch

/-- The active Channel Record of a channel. -/
def Controller.channelRecord (c : Controller) (ch : Channel) : ChannelRecord := c.tables.active.channels.get ch

def Controller.inFallback (c : Controller) : Bool := c.tables.mode.isFallback

/-- The claim state of an extent number (R67). -/
def Controller.claimAt (c : Controller) (e : Nat) : Option Claim := (c.claims[e]?).join

def Claim.holder : Claim → Option Channel
  | .free => none
  | .held h => some h
  | .wanted h _ => some h
  | .handingOver h _ => some h

def Claim.waiter : Claim → Option Channel
  | .wanted h _ => some h.other
  | .handingOver h true => some h.other
  | _ => none

def Claim.name : Claim → ClaimName
  | .free => .free
  | .held _ => .held
  | .wanted _ _ => .wanted
  | .handingOver _ _ => .handingOver

/-! The Drive Sequencer. -/

/-- The target is pending while the state does not agree with it (R120). -/
def Sequencer.targetPending (s : Sequencer) : Bool :=
  if s.targetOn then !(s.state == .ready || s.state == .parked || (s.state == .unloading && s.unloadIdle))
  else !(s.state == .stopped || s.state == .cooling)

/-- For the arbiter the Sequencer is READY only while no fault clearing is in progress (R126). -/
def Sequencer.serving (s : Sequencer) : Bool := s.state == .ready && !s.clearing

def SeqState.isFaulted : SeqState → Bool
  | .faulted _ => true
  | _ => false

/-- The spinning states of R129, in which a supply-low takes the drive down. -/
def SeqState.spinning : SeqState → Bool
  | .spinningUp | .loadingHeads | .ready | .unloading | .parked => true
  | _ => false

/-- The states in which an out-of-tolerance count of 2 is a speed fault (R123, R128). -/
def SeqState.speedWatched : SeqState → Bool
  | .loadingHeads | .ready | .unloading | .parked => true
  | _ => false

/-- A revolution of this many microseconds is in tolerance (R123). -/
def revolutionGood (period : Nat) : Bool := decide (Config.minRevolution ≤ period) && decide (period ≤ Config.maxRevolution)

/-- The target-OFF flush and the level-3 flush are done when no record is ACTIVE and none is LINGERING (R133, R175). -/
def Controller.flushDone (c : Controller) : Bool := !c.anyIn .active && !c.anyIn .lingering

/-- The conditions under which the ready-wait timer runs (R132). -/
def Controller.readyWaitDue (c : Controller) : Bool :=
  c.records.any (fun r => r.isDisk && (r.state == .waiting || r.state == .lingering))
    && !(c.drive.state == .ready || c.drive.state == .parked || c.drive.state.isFaulted)
    && (c.drive.targetOn || c.anyIn .lingering)

/-- The conditions of the idle timer less the idle unload field (R127). -/
def Controller.idleDue (c : Controller) : Bool :=
  c.drive.state == .ready && !c.anyIn .waiting && !c.anyIn .lingering && !c.anyIn .active

/-! The status block. -/

/-- The claim entries of the status block, one for each claim state (R35). R35 gives them no order; they stand in
ascending extent number (DESIGN CHOICE, log 40). -/
def Controller.claimEntries (c : Controller) : List ClaimEntry :=
  (List.range 16).filterMap fun e =>
    (c.claimAt e).map fun cl => { extent := e, state := cl.name, holder := cl.holder, waiter := cl.waiter }

/-- The status block of a channel (R35). -/
def Controller.statusBlock (c : Controller) (ch : Channel) : StatusBlock :=
  { channel := ch
    linkA := c.ports.a.link
    linkB := c.ports.b.link
    errorCount := (c.port ch).errorCount
    overflow := (c.port ch).overflow
    management := (c.channelRecord ch).management
    mode := c.tables.mode
    unconfirmed := c.tables.remapUnconfirmed
    commitPending := c.work.commitPending
    state := c.drive.state
    targetOn := c.drive.targetOn
    targetPending := c.drive.targetPending
    cartridge := c.drive.cartridgePresent
    cylinder := c.engine.cylinder
    records := c.records.length
    ownRecords := c.slots ch
    ownLingering := (c.records.filter fun r => r.channel == ch && r.state == .lingering).length
    freeBuffers := c.freeBuffers.length
    ownBuffers := c.channelBuffers ch
    deferredSet := (c.work.deferred.get ch).isSome
    degraded := c.media.degraded
    counted := c.media.counted
    retried := c.media.retried
    consecutive := c.media.consecutive
    suspects := c.media.suspects.length
    suspectOverflow := c.media.suspectOverflow
    claims := c.claimEntries }

end Sys2Proof.Machine
end

