-- ==== Sys2Proof/Machine/Ops.lean ====
section
/-! DEFINITION. The operations that several blocks share: answers and notices (R169, R171), the leaving of a record
(R42), deferred errors (R109), claims (R77, R78, R81, R83), fallback entry (R153), and the outbound arbiter (R169). -/

namespace Sys2Proof.Machine

/-! Setters: one home for each block of the state. -/

def Controller.setPort (c : Controller) (ch : Channel) (p : Port) : Controller :=
  { c with ports := c.ports.set ch p }

def Controller.modPort (c : Controller) (ch : Channel) (f : Port → Port) : Controller :=
  c.setPort ch (f (c.port ch))

def Controller.modWork (c : Controller) (f : WorkList → WorkList) : Controller := { c with work := f c.work }

def Controller.setRecords (c : Controller) (rs : List Record) : Controller :=
  { c with work := { c.work with records := rs } }

/-- One record changed, by its sequence number. -/
def Controller.modRecord (c : Controller) (seq : Nat) (f : Record → Record) : Controller :=
  c.setRecords (c.records.map fun r => if r.seq == seq then f r else r)

def Controller.setClaim (c : Controller) (e : Nat) (v : Option Claim) : Controller :=
  { c with claims := c.claims.setIfInBounds e v }

def Controller.setTables (c : Controller) (t : TableStore) : Controller := { c with tables := t }

def Controller.setDeferred (c : Controller) (ch : Channel) (d : Option DeferredRecord) : Controller :=
  { c with work := { c.work with deferred := c.work.deferred.set ch d } }

def Controller.setBuffer (c : Controller) (i : Nat) (ws : List Word) : Controller :=
  { c with buffers := c.buffers.setIfInBounds i ws }

def Controller.setEngine (c : Controller) (e : Engine) : Controller := { c with engine := e }

def Controller.setWork (c : Controller) (w : Option Work) : Controller :=
  { c with engine := { c.engine with work := w } }

def Controller.modDrive (c : Controller) (f : Sequencer → Sequencer) : Controller := { c with drive := f c.drive }

def Controller.setMedia (c : Controller) (m : Media) : Controller := { c with media := m }

/-- A command sent to the drive. -/
def Controller.send (c : Controller) (d : DriveCmd) : Controller := { c with driveOut := c.driveOut ++ [d] }

/-! Answers. -/

/-- An answer with a tag, a function code and an answer code, and nothing more (R31). -/
def Answer.plain (tag : BitVec 8) (func : BitVec 6) (code : AnswerCode) : Answer :=
  { tag := tag, func := func, code := code, done := 0, lsa := none, kind := none, soft := false, unconfirmed := false
    early := false, deferred := none, index := none, reason := none, body := .none }

/-- The function code word of a request record. -/
def Record.funcCode (r : Record) : BitVec 6 := BitVec.ofNat 6 r.job.func.code

/-- The answer of a record that never reached the drive: its code, sectors done 0. -/
def Record.answer (r : Record) (code : AnswerCode) : Answer := Answer.plain r.tag r.funcCode code

/-- An answer joins the channel's ready answers (R15, R169). -/
def Controller.placeAnswer (c : Controller) (ch : Channel) (a : Answer) : Controller :=
  c.modPort ch fun p => { p with ready := p.ready ++ [a] }

/-! Notices. -/

/-- The port's decision on a notice, against the enable set as it reads it (R171). -/
def Port.takeNotice (p : Port) (enabled : Bool) (n : Notice) : Port :=
  if !enabled then p
  else if p.notices.contains n then p
  else if Config.noticeCapacity ≤ p.notices.length then { p with overflow := true }
  else { p with notices := p.notices ++ [n] }

/-- A notice offered under the active enable set, the parity of its word not tested: for the fallback forms just
written, whose words are good. -/
def Controller.offerUntested (c : Controller) (ch : Channel) (n : Notice) : Controller :=
  c.modPort ch (·.takeNotice ((c.channelRecord ch).enables n.kind) n)

/-! The leaving of a record. -/

/-- A frame of a delivery is in progress. -/
def OutFrame.ofDelivery (f : OutFrame) : Bool := f.source == .data || f.source == .deliveryAnswer

def Port.delivering (p : Port) : Bool := p.out.any (·.ofDelivery)

/-- A frame stops after the word in progress (R169): that word still waits for the computer, and nothing follows it. -/
def OutFrame.stop (f : OutFrame) : OutFrame := { source := .stopped, words := f.words.take 1 }

/-- The frame in progress, if there is one, stops (R169, R170). -/
def Port.stopFrame (p : Port) : Port := { p with out := p.out.map (·.stop), stall := none }

/-- The record leaves the Delivery Queue; a frame of its own delivery in progress stops (R57, R169). -/
def Port.dropDelivery (p : Port) (seq : Nat) : Port :=
  let p1 : Port := { p with delivery := p.delivery.filter (· != seq) }
  if p.delivery.head? == some seq && p.delivering then p1.stopFrame else p1

/-- A record is taken out of the Work List (R42, steps 1 to 3 and 6): its answer, if any, is placed; its buffers, its
slot and its tag are free with its going; a COMMIT-WAIT record clears the COMMIT-pending mark. A record that has already
left is not touched and gives no answer. -/
def Controller.takeOut (c : Controller) (seq : Nat) (ans : Option Answer) : Controller :=
  match c.findRecord seq with
  | none => c
  | some r =>
    let c1 := match ans with
      | none => c
      | some a => c.placeAnswer r.channel a
    let c2 := c1.setRecords (c1.records.filter (·.seq != seq))
    let c3 := c2.modPort r.channel (·.dropDelivery seq)
    if r.state == .commitWait then c3.modWork (fun w => { w with commitPending := false }) else c3

/-- The CLAIM-WAIT record of a channel on an extent. -/
def Controller.claimWaiter (c : Controller) (ch : Channel) (e : Nat) : Option Record :=
  c.records.find? fun r => r.state == .claimWait && r.channel == ch && r.extent == some e

/-- The waiter's CLAIM is answered and leaves. -/
def Controller.answerWaiter (c : Controller) (ch : Channel) (e : Nat) (code : AnswerCode) : Controller :=
  match c.claimWaiter ch e with
  | none => c
  | some r => c.takeOut r.seq (some (r.answer code))

/-- The end of the drain, where it has ended (R78): the claim passes to the waiter with GRANTED, or becomes FREE. -/
def Controller.endDrain (c : Controller) (e : Nat) : Controller :=
  match c.claimAt e with
  | some (.handingOver h toWaiter) =>
    if c.drainCount h e == 0 then
      if toWaiter then (c.setClaim e (some (.held h.other))).answerWaiter h.other e .granted
      else c.setClaim e (some .free)
    else c
  | _ => c

/-- A record that has left is reported to the Claim Unit (R42, step 4): where it counted in a drain in progress and the
count has fallen to 0, the drain ends (R59, R78). -/
def Controller.drainFalls (c : Controller) (r : Record) : Controller :=
  match r.extent with
  | none => c
  | some e =>
    match c.claimAt e with
    | some (.handingOver h _) => if r.inDrain h e then c.endDrain e else c
    | _ => c

/-- The extent number found by the re-check replaces the recorded one (R52, step 1). Where the record counted in the
drain of the extent it leaves by this, and the count there falls to 0, that drain ends (R59, R78). -/
def Controller.moveRecord (c : Controller) (r : Record) (extent : Nat) : Controller :=
  (c.modRecord r.seq fun q => { q with extent := some extent }).drainFalls r

/-- The answer to a SYNC: DONE, with the channel's deferred error record where it is set (R115). -/
def Controller.syncAnswer (c : Controller) (ch : Channel) (tag : BitVec 8) : Answer :=
  { Answer.plain tag (BitVec.ofNat 6 Func.sync.code) .done with deferred := c.work.deferred.get ch }

/-- A SYNC-WAIT record whose awaited records have all left: no unwritten early write of its channel older than it
remains (R113, R114). -/
def Controller.syncComplete (c : Controller) (ch : Channel) (r : Record) : Bool :=
  r.channel == ch && r.state == .syncWait
    && !c.records.any fun o => o.unwrittenEarly ch && decide (o.seq < r.seq)

/-- The SYNC completion test of a channel (R114, R115): the complete ones are answered in acceptance order. -/
def Controller.completeSyncs (c : Controller) (ch : Channel) : Controller :=
  (c.records.filter (c.syncComplete ch)).foldl (fun c r => c.takeOut r.seq (some (c.syncAnswer ch r.tag))) c

/-- A record whose leaving is reported to the SYNC completion test of its channel (R42, step 5). -/
def Record.endsSyncs (r : Record) : Bool := r.state == .lingering || (r.early && r.state == .active)

/-- A record leaves the Work List (R42): it is taken out, its leaving is reported to the Claim Unit, and the SYNC
completion test of its channel is made. The arbiter reads the Work List itself. -/
def Controller.leave (c : Controller) (seq : Nat) (ans : Option Answer) : Controller :=
  match c.findRecord seq with
  | none => c
  | some r =>
    let c1 := (c.takeOut seq ans).drainFalls r
    if r.endsSyncs then c1.completeSyncs r.channel else c1

/-! Claims. -/

/-- A waiter's RELEASE, as far as the claim state goes (R73, R83): WANTED returns to HELD with the timer stopped,
HANDING-OVER loses its drain target. -/
def Claim.waiterGone : Claim → Claim
  | .wanted h _ => .held h
  | .handingOver h _ => .handingOver h false
  | cl => cl

/-- The old holder's WAITING writing records of the extent are answered CLAIM-LOST and leave, in acceptance order
(R77, step 2). -/
def Controller.turnAwayWrites (c : Controller) (ch : Channel) (e : Nat) : Controller :=
  (c.records.filter fun r => r.state == .waiting && r.isWriting && r.channel == ch && r.extent == some e).foldl
    (fun c r => c.leave r.seq (some (r.answer .claimLost))) c

/-- Entry into HANDING-OVER (R77): the state changes, `mid` happens (the answer of the order, or the notice of a forced
transfer), the old holder's WAITING writes are turned away, and a drain that is already empty ends at once. A claim
that `mid` has dropped goes no further. -/
def Controller.enterHandover (c : Controller) (e : Nat) (h : Channel) (toWaiter : Bool)
    (mid : Controller → Controller) : Controller :=
  let c1 := mid (c.setClaim e (some (.handingOver h toWaiter)))
  match c1.claimAt e with
  | some (.handingOver _ _) => (c1.turnAwayWrites h e).endDrain e
  | _ => c1

/-- A claim is dropped (R81): CLAIM-LOST to its holder through `offer`, REVOKED to its waiter's CLAIM, and no claim
state. -/
def Controller.dropClaim (c : Controller) (offer : Controller → Channel → Notice → Controller) (e : Nat) :
    Controller :=
  match c.claimAt e with
  | none => c
  | some cl =>
    let c1 := c.setClaim e none
    let c2 := match cl.holder with
      | none => c1
      | some h => offer c1 h (.claimLost e)
    match cl.waiter with
    | none => c2
    | some w => c2.answerWaiter w e .revoked

/-- Every claim is dropped, in ascending extent number (R81, R82). -/
def Controller.dropClaims (c : Controller) (offer : Controller → Channel → Notice → Controller) : Controller :=
  (List.range 16).foldl (fun c e => c.dropClaim offer e) c

/-! Fallback entry. -/

/-- The ACTIVE record receives a pending stop; the first taken gives the code (R102, R103). -/
def Controller.givePendingStop (c : Controller) (st : Stop) : Controller :=
  match c.engine.work with
  | none => c
  | some w => c.setWork (some { w with stop := some (w.stop.getD st) })

/-- Steps 1 to 4 of a fallback entry (R153): mode and reason, Remap decision, forms, remap-unconfirmed. -/
def TableStore.enterFallback (t : TableStore) (reason : FallbackReason) : TableStore :=
  let keep := reason == .tableFault && t.active.remapGood
  { t with
    active := t.active.toFallback keep
    mode := .fallback reason
    remapUnconfirmed := !keep || t.remapUnconfirmed }

/-- Every claim state ceases, with no notice and no answer (R84). -/
def Controller.clearClaims (c : Controller) : Controller := { c with claims := Vector.replicate 16 none }

/-- A fallback entry (R153). At a level-3 reset the claims cease without notices and answers (R84). -/
def Controller.fallbackEntry (c : Controller) (reason : FallbackReason) : Controller :=
  let c1 := c.setTables (c.tables.enterFallback reason)
  let c2 := if reason == .reset then c1.clearClaims else c1.dropClaims Controller.offerUntested
  let c3 := c2.givePendingStop .fallback
  (c3.offerUntested .a (.fallback reason)).offerUntested .b (.fallback reason)

/-- A table fault: a block has read an active word that failed parity (R141). -/
def Controller.tableFault (c : Controller) : Controller := c.fallbackEntry .tableFault

/-- An active word is read: where it fails parity a fallback entry with TABLE-FAULT follows (R141). -/
def Controller.testWord (c : Controller) (w : TWord) : Controller := if w.good then c else c.tableFault

/-- A notice is offered to a channel (R171): the enable-set word is tested for parity as it is read. -/
def Controller.offer (c : Controller) (ch : Channel) (n : Notice) : Controller :=
  (c.testWord (c.channelRecord ch).w2).offerUntested ch n

/-- A notice is offered to both channels, A first. -/
def Controller.offerBoth (c : Controller) (n : Notice) : Controller := (c.offer .a n).offer .b n

/-! Deferred errors. -/

/-- The deferred error record with one more failure (R109, step 1). -/
def addFailure (d : Option DeferredRecord) (tag : BitVec 8) (lsa : Nat) (kind : ErrorKind) : DeferredRecord :=
  match d with
  | none => { tag := tag, lsa := lsa, kind := kind, further := 0 }
  | some d => { d with further := min (d.further + 1) 255 }

/-- An early-marked record fails (R109): its channel's deferred error record takes the failure, DEFERRED-ERROR is
offered, and the record leaves with no answer. -/
def Controller.failEarly (c : Controller) (r : Record) (kind : ErrorKind) (lsa : Nat) : Controller :=
  let d := addFailure (c.work.deferred.get r.channel) r.tag lsa kind
  ((c.setDeferred r.channel (some d)).offer r.channel (.deferredError r.tag)).leave r.seq none

/-- A disk record that waits on the drive is ended (R131, R132, R133): WAITING with the answer, LINGERING as a deferred
error with its start LSA where `kind?` gives a kind, left alone where it gives none. -/
def Controller.endWaiting (c : Controller) (ans : Record → Answer) (kind? : Option ErrorKind) (r : Record) :
    Controller :=
  match r.state, kind? with
  | .waiting, _ => c.leave r.seq (some (ans r))
  | .lingering, some k => c.failEarly r k r.job.start
  | _, _ => c

/-- The disk records that wait on the drive are ended in acceptance order. -/
def Controller.endAllWaiting (c : Controller) (ans : Record → Answer) (kind? : Option ErrorKind) : Controller :=
  (c.records.filter (·.isDisk)).foldl (fun c r => c.endWaiting ans kind? r) c

/-! The outbound arbiter. -/

/-- The data frame of a DELIVERING record's next sector (R170, R178). -/
def Controller.nextDataFrame (c : Controller) (r : Record) (buffer : Nat) : OutFrame :=
  { source := .data, words := dataFrame r.tag r.sent (r.job.start + r.sent) (c.bufferWords buffer) }

/-- The next frame of the record at the head of the Delivery Queue: a data frame while buffers are left, then its
prepared answer (R169, R170). -/
def Controller.deliveryFrame (c : Controller) (r : Record) : OutFrame :=
  match r.buffers with
  | b :: _ => c.nextDataFrame r b
  | [] => { source := .deliveryAnswer, words := answerFrame (r.prepared.getD (r.answer .done)) }

/-- The frame that the outbound arbiter of a channel begins next, by its preference (R169). -/
def Controller.nextFrame (c : Controller) (p : Port) : Option OutFrame :=
  match (p.delivery.head?).bind c.findRecord with
  | some r => some (c.deliveryFrame r)
  | none =>
    match p.ready with
    | a :: _ => some { source := .answer, words := answerFrame a }
    | [] =>
      match p.notices with
      | n :: _ => some { source := .notice, words := noticeFrame n }
      | [] => none

/-- A port with no frame in progress and its link up begins the next frame (R169); the stall timer runs for a frame of
a delivery only (R170). A notice frame once begun is sent whole, before an answer placed later; the FALLBACK(POWER-ON) of
R180 begins as the link rises (DEDUCED, log 47). -/
def Controller.pumpPort (c : Controller) (ch : Channel) : Controller :=
  let p := c.port ch
  if p.link == .detached || p.out.isSome then c
  else
    let f := c.nextFrame p
    c.setPort ch { p with out := f, stall := if f.any (·.ofDelivery) then some Config.stallMs else none }

def Controller.pump (c : Controller) : Controller := (c.pumpPort .a).pumpPort .b

end Sys2Proof.Machine
end

