-- ==== Sys2Proof/Machine/MediaWatch.lean ====
section
/-! DEFINITION. Media Watch: the error-rate window, the DEGRADED latch and the Suspect List (R157 to R165). -/

namespace Sys2Proof.Machine

/-- A window starts: threshold and trip windows are read from the active Monitor Record; a failing word is a table
fault, and the window takes the defaults of its two fields, which stand in that one word (R140, R159). -/
def Controller.startWindow (c : Controller) : Controller :=
  let r := c.tables.active.monitor
  let c1 := c.testWord r.w0
  c1.setMedia
    { c1.media with
      counted := 0
      retried := 0
      threshold := if r.w0.good then r.threshold else Config.defaultThreshold
      tripWindows := if r.w0.good then r.tripWindows else Config.defaultTripWindows }

/-- The consecutive count after a window's end and whether the latch acts (R158, steps 1 and 2). -/
def Media.judgeWindow (m : Media) (retried : Nat) : Nat × Bool :=
  if m.threshold < retried then
    if m.tripWindows ≤ m.consecutive + 1 then (0, true) else (m.consecutive + 1, false)
  else (0, false)

/-- The DEGRADED latch acts (R160). -/
def Controller.trip (c : Controller) : Controller :=
  (c.setMedia { c.media with degraded := true }).offerBoth .mediaDegrading

/-- A counted-read report (R158). -/
def Controller.countRead (c : Controller) (retried : Bool) : Controller :=
  let m := c.media
  let counted := m.counted + 1
  let nRetried := m.retried + flag retried
  if counted < Config.windowReads then c.setMedia { m with counted := counted, retried := nRetried }
  else
    let (consecutive, tripped) := m.judgeWindow nRetried
    let c1 := c.setMedia { m with consecutive := consecutive }
    (if tripped then c1.trip else c1).startWindow

/-- The kind of an entry after a report (R163): SOFT never hides a harder failure. -/
def SuspectKind.merge (entry report : SuspectKind) : SuspectKind :=
  if report == .soft && entry != .soft then entry else report

/-- An entry after a report of its LSA (R162). -/
def Suspect.update (s : Suspect) (kind : SuspectKind) (ch : Channel) : Suspect :=
  { s with kind := s.kind.merge kind, count := min (s.count + 1) 15, channel := ch }

/-- A suspect report (R162, R164). -/
def Controller.reportSuspect (c : Controller) (lsa : Nat) (kind : SuspectKind) (ch : Channel) : Controller :=
  let m := c.media
  if m.suspects.any (·.lsa == lsa) then
    c.setMedia { m with suspects := m.suspects.map fun s => if s.lsa == lsa then s.update kind ch else s }
  else if m.suspects.length < Config.suspectCapacity then
    let e : Suspect := { lsa := lsa, kind := kind, count := 1, channel := ch }
    (c.setMedia { m with suspects := m.suspects ++ [e] }).offerBoth (.suspectAdded lsa)
  else c.setMedia { m with suspectOverflow := true }

end Sys2Proof.Machine
end

