-- ==== Sys2Proof/Machine/Engine.lean ====
section
/-! DEFINITION. The Transfer Engine: the work on the ACTIVE record from its dispatch to the end of its ACTIVE period
(R85 to R104, R10, R14, R56). -/

namespace Sys2Proof.Machine

/-- The work in progress and its record, where the Engine has one. -/
def Controller.withActive (c : Controller) (f : Work → Record → Controller) : Controller :=
  match c.engine.work with
  | none => c
  | some w =>
    match c.findRecord w.seq with
    | none => c
    | some r => f w r

/-- The answer of a record that was ACTIVE: its sectors done and the two flags from its marks (R99). -/
def activeAnswer (w : Work) (r : Record) (code : AnswerCode) (kind : Option ErrorKind) (lsa : Option Nat) : Answer :=
  { r.answer code with done := r.done, lsa := lsa, kind := kind, soft := w.soft, unconfirmed := w.unconfirmed }

/-- The kind that a failed early-marked write places (R110): REVOKED for a table fault, a fallback entry and a level-2
reset, its own kind for a hard error or an abort. -/
def deferredKind (code : AnswerCode) (kind : Option ErrorKind) : ErrorKind :=
  match code, kind with
  | .short, some k => k
  | .driveFault, some k => k
  | _, _ => .revoked

/-- A READ with sectors to deliver becomes DELIVERING at the tail of its channel's Delivery Queue, with its answer
prepared and the buffers of its sectors done; its other buffers are free (R56, R98). -/
def Controller.deliver (c : Controller) (r : Record) (ans : Answer) : Controller :=
  (c.modRecord r.seq fun r =>
    { r with
      state := .delivering
      buffers := r.buffers.take r.done
      firstError := ans.kind.map fun k => { lsa := ans.lsa, kind := k }
      prepared := some ans
      sent := 0 }).modPort r.channel fun p => { p with delivery := p.delivery ++ [r.seq] }

/-- The ACTIVE period ends with an outcome: an answer code, and where the outcome has them an error kind and a failing
LSA (R56, R97 to R99, R104; R175 for a READ during a level-3 reset). The failing LSA of a deferred error is the first
sector not complete (R110). -/
def Controller.endActive (c : Controller) (code : AnswerCode) (kind : Option ErrorKind) (lsa : Option Nat) :
    Controller :=
  c.withActive fun w r =>
    let c1 := c.setWork none
    if r.early then
      if code == .done then c1.leave r.seq none else c1.failEarly r (deferredKind code kind) (r.job.start + r.done)
    else if r.silent then c1.leave r.seq none
    else if r.job.func == .read && c.level3.isSome then
      c1.leave r.seq (some (activeAnswer w r .reset none none))
    else if r.job.func == .read && (code == .done || code == .short) && decide (0 < r.done) then
      c1.deliver r (activeAnswer w r code kind lsa)
    else c1.leave r.seq (some (activeAnswer w r code kind lsa))

/-- The failing LSA of an ACTIVE record: the first sector not complete, a SEEK's LSA, none for FORMAT-TRACK (R97,
R100, R102). -/
def Record.failingLsa (r : Record) : Option Nat :=
  match r.job with
  | .formatTrack _ _ _ => none
  | _ => some (r.job.start + r.done)

/-- A hard error ends the record at the sector in hand (R97). -/
def Controller.hardError (c : Controller) (kind : ErrorKind) : Controller :=
  c.withActive fun _ r =>
    let code := match r.job with
      | .formatTrack _ _ _ => AnswerCode.driveFault
      | .seek _ => .driveFault
      | _ => .short
    c.endActive code (some kind) r.failingLsa

/-- A pending stop ends the record at its boundary (R102). -/
def Controller.endByStop (c : Controller) (st : Stop) : Controller :=
  c.withActive fun _ r =>
    match st with
    | .fallback => c.endActive .revoked (some .tableFault) r.failingLsa
    | .level2 _ => c.endActive .aborted none none

/-- A supply-low or a speed fault ends the ACTIVE record at once; a field or slot being written is TORN (R100, R101). -/
def Controller.abort (c : Controller) (kind : ErrorKind) : Controller :=
  c.withActive fun w r =>
    let torn := match w.phase, r.job with
      | .writing, _ => some (r.job.start + r.done)
      | .formatting slot, .formatTrack cyl hd _ =>
        if cyl < Config.firstSpareCylinder then
          some (cyl * Config.sectorsPerCylinder + hd * Config.sectorsPerTrack + slot)
        else none
      | _, _ => none
    let c1 := match torn with
      | some l => c.reportSuspect l .torn r.channel
      | none => c
    c1.endActive .driveFault (some kind) r.failingLsa

/-- The physical address of the sector in hand; with none in hand, which only a state that no run reaches has at a read,
a write or a miss, the first of the pack. -/
def Work.location (w : Work) : Location := (w.inHand.map (·.loc)).getD (directLocation 0)

/-- The head that a record's work selects: the translated one, or the one the FORMAT-TRACK names. -/
def Work.head (w : Work) (r : Record) : Nat :=
  match r.job with
  | .formatTrack _ hd _ => hd
  | _ => w.location.head

/-- The heads stand at the target cylinder: a SEEK is complete, a FORMAT-TRACK waits for the index pulse, any other
record selects its head and searches (R86, R95, R96). -/
def Controller.positioned (c : Controller) : Controller :=
  c.withActive fun w r =>
    match r.job with
    | .seek _ => c.endActive .done none none
    | .formatTrack _ _ _ => (c.setWork (some { w with phase := .awaitingIndex })).send (.selectHead (w.head r))
    | _ => (c.setWork (some { w with phase := .searching 0 })).send (.selectHead (w.head r))

/-- A recalibration is commanded, to be followed by a seek to the target cylinder (R88); `forMark` says whether the
recalibration-pending mark is its cause. -/
def Controller.recalibrateFor (c : Controller) (w : Work) (target : Nat) (forMark : Bool) : Controller :=
  (c.setWork (some { w with phase := .recalibrating target forMark })).send .recalibrate

/-- A seek is commanded (R87). -/
def Controller.seekTo (c : Controller) (w : Work) (target : Nat) : Controller :=
  (c.setWork (some { w with phase := .seeking target })).send (.seek target)

/-- Positioning at a cylinder (R87, R88): a recalibration first while its mark is set, a seek where the cylinder
differs, nothing otherwise. -/
def Controller.positionAt (c : Controller) (target : Nat) : Controller :=
  c.withActive fun w _ =>
    if c.engine.recalPending then c.recalibrateFor w target true
    else if c.engine.cylinder != target then c.seekTo w target
    else c.positioned

/-- What the first search of a sector is for. -/
def Job.purpose : Job → Purpose
  | .write _ _ => .write
  | _ => .read

/-- A sector begins (R86 steps 1 to 3): the next LSA of the range becomes the sector in hand and is translated; a
parity fault of the translation ends the record (R10), with UNCONFIRMED (R14). -/
def Controller.beginSector (c : Controller) : Controller :=
  c.withActive fun w r =>
    let lsa := r.job.start + r.done
    match translate lsa c.tables.active.remap.toList with
    | none =>
      ((c.setWork (some { w with unconfirmed := true })).tableFault).endActive .revoked (some .tableFault) (some lsa)
    | some loc =>
      (c.setWork (some
        { w with
          inHand := some { lsa := lsa, loc := loc }
          retry := 0
          recovery := false
          rewrite := false
          purpose := r.job.purpose
          unconfirmed := w.unconfirmed || c.tables.remapUnconfirmed })).positionAt loc.cylinder

/-- The sector boundary (R86, R102, R103): DONE after the last sector, the stop where one is pending, the next sector
otherwise. -/
def Controller.boundary (c : Controller) : Controller :=
  c.withActive fun w r =>
    if r.job.count ≤ r.done then c.endActive .done none none
    else match w.stop with
      | some st => c.endByStop st
      | none => c.beginSector

/-- The sector in hand is complete: sectors done rise by one (R86). -/
def Controller.completeSector (c : Controller) : Controller :=
  c.withActive fun _ r => (c.modRecord r.seq fun r => { r with done := r.done + 1 }).boundary

/-- The SOFT mark of the record is set. -/
def Controller.markSoft (c : Controller) (soft : Bool) : Controller :=
  match c.engine.work with
  | none => c
  | some w => c.setWork (some { w with soft := w.soft || soft })

/-- A new header search of the sector in hand, without positioning (R89, R90, R94). -/
def Controller.searchAgain (c : Controller) (w : Work) (purpose : Purpose) : Controller :=
  c.setWork (some { w with phase := .searching 0, purpose := purpose })

/-- A header miss (R89): the first one of the sector is recovered, the second is a hard HEADER error with its Suspect
List report (R97). At a reread too the sector is then no counted read (DEDUCED, log 43). -/
def Controller.headerMiss (c : Controller) : Controller :=
  c.withActive fun w r =>
    if w.recovery then
      (c.reportSuspect (r.job.start + r.done) .header r.channel).hardError .header
    else c.recalibrateFor { w with recovery := true } w.location.cylinder false

/-- What a header read is to the search (R4). -/
inductive HeaderCase where
  | unreadable | otherSector | found | cylinderMismatch
deriving DecidableEq, Repr

/-- The two address words of a header: the cylinder, and the head with the sector number (R3; the second word is a free
value, log 8). -/
def headerWords (cylinder : Word) (head sector : Nat) : List Word := [cylinder, Config.headerSectorWord head sector]

/-- The four cases of R4: the check over the two address words is compared with the recorded one (R5), then the three
numbers with those sought. -/
def headerCase (target : Location) (cylinder : Word) (head sector : Nat) (check : Word) : HeaderCase :=
  if check != checkWord (headerWords cylinder head sector) then .unreadable
  else if head != target.head || sector != target.sector then .otherSector
  else if cylinder.toNat == target.cylinder then .found
  else .cylinderMismatch

/-- A stop that forbids the next write or format: a pending stop by a fallback entry, or any entry into FALLBACK while
the record is ACTIVE (R102, R153; log 19). -/
def Controller.writeStop (c : Controller) (w : Work) : Option Stop :=
  if c.inFallback then some (w.stop.getD .fallback)
  else if w.stop == some .fallback then some .fallback
  else none

/-- The buffer of the sector in hand: position i of the buffer list for position i of the range (R90, R93). -/
def Record.bufferInHand (r : Record) : Nat := (r.buffers[r.done]?).getD 12

/-- The data field of the sector found begins to be written, with the check word computed over it, unless a stop
forbids it (R93, R102). -/
def Controller.beginWrite (c : Controller) : Controller :=
  c.withActive fun w r =>
    match c.writeStop w with
    | some st => c.endByStop st
    | none =>
      let words := c.bufferWords r.bufferInHand
      (c.setWork (some { w with phase := .writing })).send (.writeField w.location words (checkWord words))

/-- The data field of the sector found begins to be read, at its physical address (R1, R90, R91, R94). -/
def Controller.beginRead (c : Controller) (w : Work) (phase : Phase) : Controller :=
  (c.setWork (some { w with phase := phase })).send (.readField w.location)

/-- The header of the sector in hand has been found: the data field that follows is read or written (R4, R86). -/
def Controller.headerFound (c : Controller) : Controller :=
  c.withActive fun w _ =>
    match w.purpose with
    | .read => c.beginRead w .reading
    | .reread => c.beginRead w .rereading
    | .write => c.beginWrite

/-- The words of a READ go into the sector's buffer as they arrive; a VERIFY discards them (R90, R91). -/
def Controller.storeRead (c : Controller) (r : Record) (words : List Word) : Controller :=
  match r.job with
  | .read _ _ => c.setBuffer r.bufferInHand words
  | _ => c

/-- The data field matched its check word (R90, R92): Suspect List report after two or more rereads, one counted read,
and the sector is complete. Both reports belong to this moment (R104); the suspect report is sent first, so its
SUSPECT-ADDED (R164) stands before the notice that the counted read may cause (DEDUCED, log 49). -/
def Controller.readMatched (c : Controller) : Controller :=
  c.withActive fun w r =>
    let c1 := if 2 ≤ w.retry then c.reportSuspect (r.job.start + r.done) .soft r.channel else c
    let retried := decide (1 ≤ w.retry)
    ((c1.markSoft retried).countRead retried).completeSector

/-- A data check error (R90): a parity fault of the retry limit stops the record, below the limit the sector is read
again, at the limit it ends in a hard DATA-CHECK error, with the suspect report sent before the counted read, as in
`readMatched` (DEDUCED, log 49). -/
def Controller.readFailed (c : Controller) : Controller :=
  c.withActive fun w r =>
    let d := c.tables.active.drive
    if !d.w4.good then
      let c1 := c.tableFault.countRead true
      c1.endByStop (((c1.engine.work.bind (·.stop))).getD .fallback)
    else if w.retry < d.retryLimit then c.searchAgain { w with retry := w.retry + 1 } .read
    else
      ((c.reportSuspect (r.job.start + r.done) .dataCheck r.channel).countRead true).hardError .dataCheck

/-- The slot of a FORMAT-TRACK begins to be written (R95): header with the physical address of the slot and its check
word, 256 copies of the fill word, and the check word over them (R3, R5). -/
def Controller.beginSlot (c : Controller) (slot : Nat) : Controller :=
  c.withActive fun w r =>
    match r.job with
    | .formatTrack cyl hd fill =>
      let loc : Location := { cylinder := cyl, head := hd, sector := slot }
      let header := headerWords (word [cyl]) hd slot
      let data := List.replicate Config.wordsPerSector fill
      (c.setWork (some { w with phase := .formatting slot })).send
        (.writeSlot loc header (checkWord header) fill (checkWord data))
    | _ => c

/-- The boundary before a slot: the stop where one is pending, the slot otherwise (R95, R102). -/
def Controller.slotBoundary (c : Controller) (slot : Nat) : Controller :=
  c.withActive fun w _ =>
    match w.stop with
    | some st => c.endByStop st
    | none =>
      match c.writeStop w with
      | some st => c.endByStop st
      | none => c.beginSlot slot

/-- The work of a record that becomes ACTIVE, with the verify flag of its re-check (R86). -/
def Work.begin (seq : Nat) (verifyFlag : Bool) : Work :=
  { seq := seq, phase := .searching 0, purpose := .read, inHand := none, retry := 0, recovery := false
    rewrite := false, stop := none, soft := false, unconfirmed := false, verifyFlag := verifyFlag }

/-- The Engine takes the dispatched record and begins its work (R54, R86, R95, R96). -/
def Controller.startWork (c : Controller) (r : Record) (verifyFlag : Bool) : Controller :=
  let c1 := c.setWork (some (.begin r.seq verifyFlag))
  match r.job with
  | .formatTrack cyl _ _ => c1.positionAt cyl
  | _ => c1.beginSector

end Sys2Proof.Machine
end

