-- ==== Sys2Proof/Machine/Sequencer.lean ====
section
/-! DEFINITION. The Drive Sequencer: its timers, its state entries, the speed and supply faults, the off sequence and
the judgement of a revolution (R119 to R137). -/

namespace Sys2Proof.Machine

/-! Timers (R136): a timer takes its duration from the active Drive Record as it starts; a failing word is a table
fault, and that start takes the default. Durations are in milliseconds. -/

/-- A word of the active Drive Record read for a timer. -/
def Controller.readTimer (c : Controller) (w : TWord) (tenths fallback : Nat) : Controller × Nat :=
  if w.good then (c, tenths * Config.tenthMs) else (c.tableFault, fallback * Config.tenthMs)

def Controller.readSpinUp (c : Controller) : Controller × Nat :=
  c.readTimer c.tables.active.drive.w0 c.tables.active.drive.spinUp Config.defaultSpinUp

def Controller.readCoolDown (c : Controller) : Controller × Nat :=
  c.readTimer c.tables.active.drive.w1 c.tables.active.drive.coolDown Config.defaultCoolDown

def Controller.readReadyWait (c : Controller) : Controller × Nat :=
  c.readTimer c.tables.active.drive.w2 c.tables.active.drive.readyWait Config.defaultReadyWait

def Controller.readHeadLoad (c : Controller) : Controller × Nat :=
  c.readTimer c.tables.active.drive.w3 c.tables.active.drive.headLoad Config.defaultHeadLoad

/-! From rest to READY. -/

/-- The conditions of R122; the spindle never starts while the cool-down timer runs (R121). -/
def Sequencer.startDue (d : Sequencer) : Bool :=
  d.state == .stopped && d.targetOn && d.cartridgePresent && d.supplyGood && d.coolDown.isNone

/-- The spindle starts from STOPPED (R122). -/
def Controller.startSpindle (c : Controller) : Controller :=
  let p := ((c.send .lockInterlock).send .spindleOn).readSpinUp
  p.1.modDrive fun d =>
    { d with
      state := .spinningUp
      interlockLocked := true
      spindleOn := true
      atRest := false
      restedOff := false
      inTolerance := 0
      outOfTolerance := 0
      pulseSeen := false
      alreadyCounted := false
      spinUp := some p.2 }

/-- The start conditions are looked at (R122). -/
def Controller.tryStart (c : Controller) : Controller := if c.drive.startDue then c.startSpindle else c

/-- DRIVE-STATE of the present state goes to both channels (R137). -/
def Controller.announce (c : Controller) : Controller := c.offerBoth (.driveState c.drive.state)

/-- STOPPED is entered (R121, R122, R137). -/
def Controller.enterStopped (c : Controller) : Controller :=
  (c.modDrive fun d => { d with state := .stopped }).announce.tryStart

/-- A difference between the cartridge-present line and cartridge present is an insertion or a removal (R135). -/
def Controller.readCartridgeLine (c : Controller) : Controller :=
  if c.drive.cartridgeLine == c.drive.cartridgePresent then c
  else if c.drive.cartridgeLine then
    (c.modDrive fun d => { d with cartridgePresent := true }).fallbackEntry .packChanged
  else c.modDrive fun d => { d with cartridgePresent := false }

/-- COOLING is entered (R121, R135, R137): the interlock unlocks and the cartridge line is read; a cool-down timer that
has already expired moves on to STOPPED at once. -/
def Controller.enterCooling (c : Controller) : Controller :=
  let c1 := (c.modDrive fun d => { d with state := .cooling, interlockLocked := false }).send .unlockInterlock
  let c2 := c1.announce.readCartridgeLine
  if c2.drive.coolDown.isNone then c2.enterStopped else c2

/-- The spindle is commanded off. -/
def Controller.spindleOff (c : Controller) : Controller :=
  (c.modDrive fun d => { d with spindleOn := false }).send .spindleOff

/-- SPINNING-DOWN is entered with the spindle commanded off if it is not already (R124, R127, R129, R131, R133). -/
def Controller.enterSpinningDown (c : Controller) : Controller :=
  (if c.drive.spindleOn then c.spindleOff else c).modDrive fun d => { d with state := .spinningDown }

/-- LOADING-HEADS is entered (R125). -/
def Controller.enterLoading (c : Controller) : Controller :=
  let p := (c.send .headsOn).readHeadLoad
  p.1.modDrive fun d => { d with state := .loadingHeads, heads := .loading, headLoad := some p.2 }

/-- READY is entered (R126). -/
def Controller.enterReady (c : Controller) : Controller :=
  (c.modDrive fun d => { d with state := .ready, outOfTolerance := 0 }).announce

/-- UNLOADING is entered, by idle unload or on the off sequence (R125, R127, R133). A fault clearing does not outlast
READY (log 16). -/
def Controller.beginUnload (c : Controller) (idle : Bool) : Controller :=
  (c.modDrive fun d =>
    { d with
      state := .unloading
      heads := .unloading
      unloadWait := some Config.unloadMs
      unloadIdle := idle
      clearing := false }).send .headsOff

/-! FAULTED. -/

/-- FAULTED is left (R131): to COOLING where the report that starts the cool-down timer has come; otherwise the spindle
is commanded off if it is not already, and SPINNING-DOWN waits for that report (log 45). -/
def Controller.leaveFaulted (c : Controller) : Controller :=
  if c.drive.restedOff then c.enterCooling else c.enterSpinningDown

/-- The kind of the deferred errors that a fault gives (R131). -/
def DriveFault.deferredKind : DriveFault → ErrorKind
  | .spinUp => .notReady
  | .recal => .seek
  | .writeFault => .writeFault

/-- The disk records that wait on the drive are ended in FAULTED (R131): DRIVE-FAULT with no kind and no failing LSA,
or a deferred error. -/
def Controller.endForFault (c : Controller) (f : DriveFault) : Controller :=
  c.endAllWaiting (fun r => r.answer .driveFault) (some f.deferredKind)

/-- FAULTED is entered (R131); with the target already OFF it is left at once after the entry steps. -/
def Controller.enterFaulted (c : Controller) (f : DriveFault) : Controller :=
  let c1 := (c.modDrive fun d => { d with state := .faulted f, heads := .unloaded, clearing := false }).announce
  let c2 := c1.endForFault f
  if c2.drive.targetOn then c2 else c2.leaveFaulted

/-! Speed and supply. -/

/-- The heads are on the pack or on their way to it. -/
def Heads.onPack : Heads → Bool
  | .loaded | .loading => true
  | _ => false

/-- An emergency unload is commanded if the heads are loaded or loading (R128, R129). -/
def Controller.emergencyUnload (c : Controller) : Controller :=
  if c.drive.heads.onPack then c.send .emergencyUnload else c

/-- A speed fault (R128), in its four steps. -/
def Controller.speedFault (c : Controller) : Controller :=
  let p := (c.abort .speed).emergencyUnload.readSpinUp
  (p.1.modDrive fun d =>
    { d with
      state := .spinningUp
      heads := .unloaded
      clearing := false
      headLoad := none
      recalWait := none
      unloadWait := none
      inTolerance := 0
      outOfTolerance := 0
      spinUp := some p.2 }).announce

/-- The LINGERING records fail when a level-3 flush loses the drive (R112). -/
def Controller.failFlush (c : Controller) : Controller :=
  (c.records.filter (·.state == .lingering)).foldl (fun c r => c.failEarly r .notReady r.job.start) c

/-- A supply-low in a spinning state (R129). -/
def Controller.supplyDown (c : Controller) : Controller :=
  let c1 := ((c.abort .supply).emergencyUnload.modDrive fun d =>
    { d with
      heads := .unloaded
      clearing := false
      spinUp := none
      headLoad := none
      recalWait := none
      unloadWait := none }).enterSpinningDown
  if c1.level3.isSome then c1.failFlush else c1

/-! Revolutions (R123). -/

/-- One revolution judged: the two counts move. -/
def Sequencer.countRevolution (d : Sequencer) (good : Bool) : Sequencer :=
  if good then { d with inTolerance := min (d.inTolerance + 1) Config.lockRevolutions, outOfTolerance := 0 }
  else { d with inTolerance := 0, outOfTolerance := min (d.outOfTolerance + 1) Config.speedFaultRevolutions }

/-- An index pulse in the measurement: the first pulse only starts it, and a pulse after a missing-pulse count only
starts the next revolution. -/
def Sequencer.pulse (d : Sequencer) (period : Nat) : Sequencer :=
  if d.atRest then d
  else if !d.pulseSeen then { d with pulseSeen := true }
  else if d.alreadyCounted then { d with alreadyCounted := false }
  else d.countRevolution (revolutionGood period)

/-- 25.5 ms without a pulse: one out-of-tolerance revolution. -/
def Sequencer.missedPulse (d : Sequencer) : Sequencer :=
  if d.atRest || !d.pulseSeen then d else { d.countRevolution false with alreadyCounted := true }

/-- The out-of-tolerance count has reached 2 in a state that watches it (R123, R128). -/
def Sequencer.speedFaultDue (d : Sequencer) : Bool :=
  d.state.speedWatched && decide (Config.speedFaultRevolutions ≤ d.outOfTolerance)

/-! The way down (R133, R134). -/

/-- The off sequence begins from the state then held, where the target is OFF and the flush is done (R133); FAULTED is
left at once (R131). A fault clearing is not broken off (R130). -/
def Controller.offSequence (c : Controller) : Controller :=
  if c.drive.targetOn then c
  else match c.drive.state with
    | .ready => if c.flushDone && !c.drive.clearing then c.beginUnload false else c
    | .parked => if c.flushDone then c.enterSpinningDown else c
    | .faulted _ => c.leaveFaulted
    | _ => c

/-- Whether the drive goes on to READY at the end of a load or of spin-up: target ON, or a LINGERING record to flush
(R124, R125). -/
def Controller.driveWanted (c : Controller) : Bool := c.drive.targetOn || c.anyIn .lingering

/-! Fault clearing (R130). -/

/-- A fault clearing starts where the write-fault line is found raised in READY with no record ACTIVE. -/
def Controller.startClearing (c : Controller) : Controller :=
  if c.drive.state == .ready && c.drive.writeFaultLine && !c.drive.clearing && !c.anyIn .active then
    (c.modDrive fun d => { d with clearing := true, clearCount := 1 }).send .faultClear
  else c

/-! What the end of a step settles: conditions that the Sequencer and the outbound arbiters watch all the time. -/

/-- The ready-wait timer follows its three conditions (R132). -/
def Controller.settleReadyWait (c : Controller) : Controller :=
  if !c.readyWaitDue then c.modDrive fun d => { d with readyWait := none }
  else if c.drive.readyWait.isSome then c
  else
    let p := c.readReadyWait
    p.1.modDrive fun d => { d with readyWait := some p.2 }

/-- The idle timer follows its conditions (R127). `was` says whether they held before the command: a failing idle
unload word is met once, as they come to hold (R136, log 15). -/
def Controller.settleIdle (c : Controller) (was : Bool) : Controller :=
  let r := c.tables.active.drive
  if !c.idleDue then c.modDrive fun d => { d with idle := none }
  else if !r.w3.good then (if c.drive.idle.isSome || was then c else c.tableFault)
  else if r.idleUnload = 0 then c.modDrive fun d => { d with idle := none }
  else if c.drive.idle.isSome then c
  else c.modDrive fun d => { d with idle := some (r.idleUnload * Config.minuteMs) }

/-- The end of a step (log 16, log 17): a raised write-fault line is found, the two timers follow their conditions, and
each port with nothing under way begins its next frame. -/
def Controller.settle (before after : Controller) : Controller :=
  (after.startClearing.settleReadyWait.settleIdle before.idleDue).pump

/-- A command's effect on the block, with the end of its step. -/
def State.run (s : State) (f : Controller → Controller) : Host.Outcome State Fault Refusal :=
  .next { s with ctl := s.ctl.settle (f s.ctl) }

end Sys2Proof.Machine
end

