-- ==== Sys2Proof/Machine/Checker.lean ====
section
/-! DEFINITION. The Order Checker: the eleven checks in their sequence, the parity rule of R29, and the making of
request records at acceptance (R15, R20 to R30, R105). -/

namespace Sys2Proof.Machine

def Order.isDisk (o : Order) : Bool := o.fn.any (·.isDisk)

/-- The fields of the order, where they are in range. -/
def Order.operands (o : Order) : Option Operands := o.fn.bind fun fn => parseOperands fn o.frame.words

/-- The class of the order; absent where its field names none. -/
def Order.cls (o : Order) : Option Class := Class.ofNat? o.frame.cls.toNat

/-- How a check stops an order: a parity fault of a word it read (R29), or a refusal with its code. -/
inductive CheckStop where
  | fault
  | refuse (code : AnswerCode)
deriving DecidableEq, Repr

/-- A check that reads an active word. -/
def needGood (w : TWord) (k : Option CheckStop) : Option CheckStop := if w.good then k else some .fault

def refuseIf (b : Bool) (code : AnswerCode) : Option CheckStop := if b then some (.refuse code) else none

/-- What the search of the Extent Table gives (R25). -/
inductive ExtentSearch where
  | fault
  | notFound
  | found (number : Nat) (entry : ExtentEntry)
deriving DecidableEq, Repr

/-- The entries are read in ascending index; of an invalid entry only the word with the valid field is read (R25,
R61). Both LSA words of every valid entry passed are read, the last LSA also where the first already excludes the range
(DEDUCED, log 14). -/
def searchExtents (lo hi : Nat) : Nat → List ExtentEntry → ExtentSearch
  | _, [] => .notFound
  | n, e :: es =>
    if !e.w0.good then .fault
    else if !e.valid then searchExtents lo hi (n + 1) es
    else if !(e.w1.good && e.w2.good) then .fault
    else if decide (e.firstLsa ≤ lo) && decide (hi ≤ e.lastLsa) then .found n e
    else searchExtents lo hi (n + 1) es

/-- The valid active extent that contains a range (R25). -/
def Controller.extentOf (c : Controller) (range : Nat × Nat) : ExtentSearch :=
  searchExtents range.1 range.2 0 c.tables.active.extents.toList

/-- The entry that an ownership order names, if it is valid (R25). -/
def Controller.namedExtent (c : Controller) (n : Nat) : ExtentSearch :=
  match c.tables.active.extent? n with
  | none => .notFound
  | some e => if !e.w0.good then .fault else if e.valid then .found n e else .notFound

/-- What check 6 looks for: the extent of the range, the named extent, or nothing for the functions it passes over. -/
def Controller.orderExtent (c : Controller) (o : Order) : Option ExtentSearch :=
  match o.operands with
  | some (.extent n) => some (c.namedExtent n)
  | some ops => ops.range.map c.extentOf
  | none => none

/-- The rights, any one of which a function needs in its extent (R25). -/
def Func.rights : Func → List Right
  | .read | .verify | .seek => [.read]
  | .write => [.write]
  | .formatTrack => [.format]
  | .claim => [.write, .format]
  | _ => []

/-! The checks. -/

/-- Check 1 (R21, R168). -/
def Controller.check1 (c : Controller) (o : Order) : Option CheckStop :=
  refuseIf (c.level3.isSome || ((c.port o.channel).link == .recovering && o.fn.any (·.waitsOutRecovery)))
    .refusedResetting

/-- Check 2 (R21). The management word is read, and so parity-tested, for the management functions only (DEDUCED,
log 14). -/
def Controller.check2 (c : Controller) (o : Order) : Option CheckStop :=
  let r := c.channelRecord o.channel
  match o.fn with
  | none => some (.refuse .refusedFunction)
  | some fn => if fn.isManagement then needGood r.w0 (refuseIf (!r.management) .refusedFunction) else none

/-- Check 3 (R22): the ranges of R18 and R19, the class field of a disk order, then max sectors. -/
def Controller.check3 (c : Controller) (o : Order) : Option CheckStop :=
  let r := c.channelRecord o.channel
  if o.isDisk && o.cls.isNone then some (.refuse .refusedRange)
  else match o.operands with
    | none => some (.refuse .refusedRange)
    | some (.sectors _ n) => needGood r.w0 (refuseIf (decide (r.maxSectors < n)) .refusedRange)
    | some (.writeData _ n _) => needGood r.w0 (refuseIf (decide (r.maxSectors < n)) .refusedRange)
    | some _ => none

/-- Check 4 (R23). -/
def Controller.check4 (c : Controller) (o : Order) : Option CheckStop :=
  let r := c.channelRecord o.channel
  if o.isDisk then
    needGood r.w0 (refuseIf (o.cls.any fun k => decide (r.ceiling.rank < k.rank)) .refusedClass)
  else none

/-- Check 5 (R24). -/
def Controller.check5 (c : Controller) (o : Order) : Option CheckStop :=
  refuseIf (c.tagLive o.channel o.frame.tag) .refusedTag

/-- Check 6 (R25). -/
def Controller.check6 (c : Controller) (o : Order) : Option CheckStop :=
  match c.orderExtent o with
  | none => none
  | some .fault => some .fault
  | some .notFound => some (.refuse .refusedExtent)
  | some (.found _ _) => none

/-- Check 7 (R25): the right in the extent; management and NORMAL mode for a FORMAT-TRACK on a spare track. -/
def Controller.check7 (c : Controller) (o : Order) : Option CheckStop :=
  let r := c.channelRecord o.channel
  match o.fn with
  | none => none
  | some fn =>
    match c.orderExtent o with
    | some (.found _ e) =>
      refuseIf (!fn.rights.isEmpty && !fn.rights.any (e.hasRight o.channel)) .refusedRights
    | _ =>
      if fn == .formatTrack then needGood r.w0 (refuseIf (!(r.management && !c.inFallback)) .refusedRights)
      else none

/-- Check 8 against a claim state (R26). -/
def claimStop (ch : Channel) : Option Claim → Option CheckStop
  | some (.held h) => refuseIf (h != ch) .refusedClaim
  | some (.wanted h _) => refuseIf (h != ch) .refusedClaim
  | some (.handingOver h _) => some (.refuse (if h == ch then .claimLost else .refusedClaim))
  | some .free => some (.refuse .refusedClaim)
  | none => some (.refuse .refusedClaim)

/-- Check 8 (R26): a WRITE or logical FORMAT-TRACK in an EXCLUSIVE extent. -/
def Controller.check8 (c : Controller) (o : Order) : Option CheckStop :=
  if o.fn == some .write || o.fn == some .formatTrack then
    match c.orderExtent o with
    | some (.found n e) => if e.exclusive then claimStop o.channel (c.claimAt n) else none
    | _ => none
  else none

/-- Check 9 (R27). -/
def Controller.check9 (c : Controller) (o : Order) : Option CheckStop :=
  refuseIf (o.isDisk && !c.drive.targetOn) .refusedDriveOff

/-- The channel has an unwritten early write (R106). -/
def Controller.hasEarly (c : Controller) (ch : Channel) : Bool := c.records.any (·.unwrittenEarly ch)

/-- A CLAIM that will wait: the extent is HELD by the other channel (R28, R68). -/
def Controller.claimWaits (c : Controller) (o : Order) : Bool :=
  match c.orderExtent o with
  | some (.found n e) => e.exclusive && c.claimAt n == some (.held o.channel.other)
  | _ => false

/-- The order will become a request record (R28). -/
def Controller.becomesRecord (c : Controller) (o : Order) : Bool :=
  o.isDisk || o.fn == some .commit || (o.fn == some .sync && c.hasEarly o.channel)
    || (o.fn == some .claim && c.claimWaits o)

/-- Check 10 (R28). -/
def Controller.check10 (c : Controller) (o : Order) : Option CheckStop :=
  let r := c.channelRecord o.channel
  if o.fn == some .commit && c.anyIn .commitWait then some (.refuse .commitPending)
  else if c.becomesRecord o then
    needGood r.w1
      (refuseIf (decide (Config.maxRecords ≤ c.records.length) || decide (r.slotQuota ≤ c.slots o.channel))
        .refusedListFull)
  else none

/-- Check 11 (R28). -/
def Controller.check11 (c : Controller) (o : Order) : Option CheckStop :=
  let r := c.channelRecord o.channel
  match o.fn, o.operands with
  | some .write, some (.writeData _ n _) =>
    needGood r.w0
      (refuseIf (decide (c.freeBuffers.length < n) || decide (r.bufferQuota < c.channelBuffers o.channel + n))
        .refusedBuffers)
  | some .read, some (.sectors _ n) => needGood r.w0 (refuseIf (decide (r.bufferQuota < n)) .refusedBuffers)
  | _, _ => none

/-- STATUS reads the management privilege for its answer (R35): the Checker's last reading (log 14). -/
def Controller.statusReading (c : Controller) (o : Order) : Option CheckStop :=
  if o.fn == some .status then needGood (c.channelRecord o.channel).w0 none else none

/-- The checks, in their sequence (R20). -/
def checks : List (Controller → Order → Option CheckStop) :=
  [Controller.check1, Controller.check2, Controller.check3, Controller.check4, Controller.check5, Controller.check6,
    Controller.check7, Controller.check8, Controller.check9, Controller.check10, Controller.check11,
    Controller.statusReading]

/-- The first check that fails; none for an order that passes (R20). -/
def Controller.runChecks (c : Controller) (o : Order) : Option CheckStop := checks.findSome? fun k => k c o

/-! Answers and acceptance. -/

/-- An order is answered at once, with a code and nothing more (R30, R31). -/
def Controller.answerOrder (c : Controller) (o : Order) (code : AnswerCode) : Controller :=
  c.placeAnswer o.channel (Answer.plain o.frame.tag o.code code)

/-- The checks and their outcome (R20, R29): a parity fault enters fallback and the order is checked again; a second
one answers REVOKED with kind TABLE-FAULT. -/
def Controller.takeOrder (c : Controller) (o : Order) (accept : Controller → Controller) : Controller :=
  match c.runChecks o with
  | none => accept c
  | some (.refuse code) => c.answerOrder o code
  | some .fault =>
    let c1 := c.tableFault
    match c1.runChecks o with
    | none => accept c1
    | some (.refuse code) => c1.answerOrder o code
    | some .fault =>
      c1.tableFault.placeAnswer o.channel
        { Answer.plain o.frame.tag o.code .revoked with kind := some .tableFault }

/-- A frame has arrived whole: nothing is left of the one being received. -/
def Controller.frameTaken (c : Controller) (ch : Channel) : Controller :=
  c.modPort ch fun p => { p with inbound := [] }

/-- An order reaches the Checker (R15). Frames are received only while the link is up (R166, log 32). -/
def Controller.order (c : Controller) (o : Order) (accept : Controller → Controller) : Controller :=
  if (c.port o.channel).link == .detached then c else (c.frameTaken o.channel).takeOrder o accept

/-- A request record as acceptance makes it (R30, R38, R39). -/
def Controller.newRecord (c : Controller) (o : Order) (job : Job) (state : RecState) : Record :=
  { channel := o.channel, tag := o.frame.tag, job := job, cls := none, extent := none, buffers := [], state := state
    bypass := 0, seq := c.work.nextSeq, early := false, done := 0, firstError := none, silent := false
    prepared := none, sent := 0 }

/-- A record enters the Work List and the acceptance sequence moves on (R39). -/
def Controller.addRecord (c : Controller) (r : Record) : Controller :=
  c.modWork fun w => { w with records := w.records ++ [r], nextSeq := w.nextSeq + 1 }

/-- The extent number found at check 6. -/
def Controller.extentNumber (c : Controller) (o : Order) : Option Nat :=
  match c.orderExtent o with
  | some (.found n _) => some n
  | _ => none

/-- A disk record that enters the Work List in FAULTED is ended as soon as it is there (R131). -/
def Controller.endInFault (c : Controller) : Controller :=
  match c.drive.state with
  | .faulted f => c.endForFault f
  | _ => c

/-- A disk order other than WRITE becomes a WAITING record (R30). -/
def Controller.acceptDisk (c : Controller) (o : Order) (job : Job) : Controller :=
  (c.addRecord { c.newRecord o job .waiting with cls := o.cls, extent := c.extentNumber o }).endInFault

/-- The data list goes into the buffers, one sector a buffer (R30, R43). -/
def Controller.fillBuffers (c : Controller) (buffers : List Nat) (data : List Word) : Controller :=
  buffers.zipIdx.foldl (fun c p => c.setBuffer p.1 (sectorWords data p.2)) c

/-- The three conditions of the early answer (R105). -/
def Controller.answersEarly (c : Controller) (o : Order) : Bool :=
  match c.orderExtent o with
  | some (.found _ e) =>
    e.writeBehind && (c.channelRecord o.channel).writeBehindPermitted && (c.work.deferred.get o.channel).isNone
  | _ => false

/-- A WRITE takes the lowest free buffers and its data, and is answered EARLY or waits (R30, R43, R105). -/
def Controller.acceptWrite (c : Controller) (o : Order) (start count : Nat) (data : List Word) : Controller :=
  let buffers := c.freeBuffers.take count
  let early := c.answersEarly o
  let r : Record :=
    { c.newRecord o (.write start count) (if early then .lingering else .waiting) with
      cls := o.cls, extent := c.extentNumber o, buffers := buffers, early := early }
  let c1 := (c.fillBuffers buffers data).addRecord r
  let answered :=
    if early then c1.placeAnswer o.channel { Answer.plain o.frame.tag o.code .done with early := true } else c1
  answered.endInFault

end Sys2Proof.Machine
end

