-- ==== Sys2Proof/Machine/Arbiter.lean ====
section
/-! DEFINITION. The drive arbiter: eligibility, the choice, the dispatch re-check and the dispatch (R46 to R55). -/

namespace Sys2Proof.Machine

/-! Eligibility. -/

/-- An older overlapping record holds the record back (R47). -/
def Controller.heldBack (c : Controller) (r : Record) : Bool :=
  c.records.any fun o =>
    decide (o.seq < r.seq) && rangesOverlap o.job.range r.job.range && (o.isWriting || r.isWriting)
      && (o.state == .waiting || o.state == .lingering || o.state == .active)

/-- The buffers that a READ will need are there (R46, condition 5). -/
def Controller.buffersFit (c : Controller) (r : Record) : Bool :=
  match r.job with
  | .read _ n =>
    decide (n ≤ c.freeBuffers.length)
      && decide (c.channelBuffers r.channel + n ≤ (c.channelRecord r.channel).bufferQuota)
  | _ => true

/-- The conditions of eligibility less the buffers and the drive (R46, conditions 1, 3 and 4). -/
def Controller.inTurn (c : Controller) (r : Record) : Bool :=
  (r.state == .waiting || r.state == .lingering) && !c.work.commitPending && !c.heldBack r

/-- The record is eligible, the drive apart (R46; condition 2 is the same for every record). -/
def Controller.eligible (c : Controller) (r : Record) : Bool := c.inTurn r && c.buffersFit r

/-- The eligibility test of a READ reads its channel's buffer quota; a failing word is a table fault, and the test goes
on under the fallback record (R45, R141). It is read for a READ that meets conditions 1, 3 and 4, whether or not the pool
has the free buffers, and for no other (DEDUCED, log 31). -/
def Controller.testQuota (c : Controller) (ch : Channel) : Controller :=
  if c.records.any fun r => r.channel == ch && r.job.func == .read && c.inTurn r then
    c.testWord (c.channelRecord ch).w0
  else c

def Controller.testQuotas (c : Controller) : Controller := (c.testQuota .a).testQuota .b

/-- The eligible records, in acceptance order. -/
def Controller.eligibles (c : Controller) : List Record := c.records.filter c.eligible

/-! The choice (R49, R50). The records stand in acceptance order, so the oldest of a list is its first. -/

/-- Step 1: the oldest eligible record at or above the bypass limit. -/
def pickByBypass (limit : Nat) (es : List Record) : Option Record := es.find? fun r => decide (limit ≤ r.bypass)

def Record.rank (r : Record) : Nat := (r.cls.map Class.rank).getD 0

/-- Step 2: the eligible records of the highest class present. -/
def topClass (es : List Record) : List Record := es.filter fun r => es.all fun o => decide (o.rank ≤ r.rank)

def Direction.reverse : Direction → Direction
  | .upward => .downward
  | .downward => .upward

/-- A cylinder lies in a direction from the current one (R50). -/
def Direction.holds (d : Direction) (current cylinder : Nat) : Bool :=
  match d with
  | .upward => decide (current ≤ cylinder)
  | .downward => decide (cylinder ≤ current)

def cylinderDistance (a b : Nat) : Nat := (a - b) + (b - a)

/-- The records nearest in cylinders. -/
def nearest (current : Nat) (rs : List Record) : List Record :=
  rs.filter fun r => rs.all fun o =>
    decide (cylinderDistance current r.cylinder ≤ cylinderDistance current o.cylinder)

/-- Steps 3 and 4: the sweep, its direction reversed at most once, and age. -/
def sweepChoice (sweep : Direction) (current : Nat) (candidates : List Record) : Option (Record × Direction) :=
  let ahead := candidates.filter fun r => sweep.holds current r.cylinder
  if ahead.isEmpty then
    ((nearest current (candidates.filter fun r => sweep.reverse.holds current r.cylinder)).head?).map
      fun r => (r, sweep.reverse)
  else ((nearest current ahead).head?).map fun r => (r, sweep)

/-- The bypass limit as the choice reads it; absent where its word fails parity (R49). -/
def DriveRecord.bypassLimit? (d : DriveRecord) : Option Nat := if d.w4.good then some d.bypassLimit else none

/-- The choice among the eligible records, with the sweep direction it leaves (R49). -/
def Controller.pick (c : Controller) (limit : Option Nat) (es : List Record) : Option (Record × Direction) :=
  match limit.bind fun l => pickByBypass l es with
  | some r => some (r, c.work.sweep)
  | none => sweepChoice c.work.sweep c.engine.cylinder (topClass es)

/-! The re-check (R52). -/

/-- What the re-check of a chosen record finds: the extent number and the verify flag where it passes. -/
inductive Recheck where
  | fault
  | fail
  | pass (extent : Option Nat) (verify : Bool)
deriving DecidableEq, Repr

/-- Check 8 at dispatch: the channel is the recorded holder (R52). -/
def Controller.holdsClaim (c : Controller) (r : Record) (n : Nat) : Bool :=
  (c.claimAt n).bind (·.holder) == some r.channel

/-- One run of the re-check (R52). -/
def Controller.recheckOnce (c : Controller) (r : Record) : Recheck :=
  match r.job.range with
  | none =>
    let cr := c.channelRecord r.channel
    if !cr.w0.good then .fault
    else if cr.management && !c.inFallback then .pass none false else .fail
  | some range =>
    match c.extentOf range with
    | .fault => .fault
    | .notFound => .fail
    | .found n e =>
      if !r.job.func.rights.any (e.hasRight r.channel) then .fail
      else if r.isWriting && e.exclusive && !c.holdsClaim r n then .fail
      else .pass (some n) e.verifyAfterWrite

/-- The re-check with its parity rule: a fault enters fallback and the re-check starts again (R52). -/
def Controller.recheck (c : Controller) (r : Record) : Controller × Recheck :=
  match c.recheckOnce r with
  | .fault => (c.tableFault, c.tableFault.recheckOnce r)
  | v => (c, v)

/-- Step 1 of the re-check, as far as the Work List goes (R52, R59): the extent that now contains the range gives the
record its number. A range in no extent, and a spare track, leave the recorded one. -/
def Controller.resolve (c : Controller) (r : Record) : Controller :=
  match r.job.range with
  | none => c
  | some range =>
    match c.extentOf range with
    | .found n _ => c.moveRecord r n
    | _ => c

/-- A chosen record that fails its re-check leaves (R53). -/
def Controller.turnAway (c : Controller) (r : Record) : Controller :=
  match r.state with
  | .lingering => c.failEarly r .revoked r.job.start
  | _ => c.leave r.seq (some { r.answer .revoked with kind := some .revoked })

/-! Dispatch (R51, R54). -/

/-- The buffers of a record at its dispatch: a READ takes its lowest free buffers (R43). -/
def Controller.dispatchBuffers (c : Controller) (r : Record) : List Nat :=
  match r.job with
  | .read _ n => c.freeBuffers.take n
  | _ => r.buffers

/-- The bypass count of a record passed over (R51). -/
def Record.passOver (r : Record) : Record := { r with bypass := min (r.bypass + 1) Config.maxBypass }

/-- The records after a dispatch: the chosen one ACTIVE, the other eligible ones passed over. -/
def Controller.dispatchRecords (c : Controller) (r : Record) (es : List Record) (extent : Option Nat) : List Record :=
  c.records.map fun o =>
    if o.seq == r.seq then
      { o with state := .active, extent := extent, buffers := c.dispatchBuffers r }
    else if es.any (·.seq == o.seq) then o.passOver else o

/-- A chosen record is dispatched (R54). -/
def Controller.dispatch (c : Controller) (r : Record) (es : List Record) (sweep : Direction) (extent : Option Nat)
    (verify : Bool) : Controller :=
  ((c.setRecords (c.dispatchRecords r es extent)).modWork fun w => { w with sweep := sweep }).startWork r verify

/-- The arbiter chooses until a record is dispatched or none is eligible (R48, R49, R53). Each failed re-check removes
a record, so the number of records bounds the choices. -/
def Controller.choose : Nat → Controller → Controller
  | 0, c => c
  | n + 1, c =>
    let c0 := c.testQuotas
    let es := c0.eligibles
    if es.isEmpty then c0
    else
      let c1 := c0.testWord c0.tables.active.drive.w4
      match c1.pick c0.tables.active.drive.bypassLimit? es with
      | none => c1
      | some (r, sweep) =>
        match c1.recheck r with
        | (c2, .pass extent verify) => (c2.resolve r).dispatch r es sweep extent verify
        | (c2, _) => ((c2.resolve r).turnAway r).choose n

/-- From PARKED the arbiter asks for the heads where a record would be eligible (R48, R127). -/
def Controller.askForHeads (c : Controller) : Controller :=
  let c0 := c.testQuotas
  if c0.eligibles.isEmpty then c0 else c0.enterLoading

/-- The drive is offered to the arbiter (R48, R55). -/
def Controller.arbitrate (c : Controller) : Controller :=
  if c.anyIn .active then c
  else if c.drive.serving then c.choose (c.records.length + 1)
  else if c.drive.state == .parked then c.askForHeads
  else c

/-- ARBITER_CHOICE (R48, R49). -/
def execArbiterChoice (s : State) : Host.Outcome State Fault Refusal := s.run (·.arbitrate)

end Sys2Proof.Machine
end

