-- ==== Sys2Proof/Machine/Claims.lean ====
section
/-! DEFINITION. The ownership orders, the end of a drain and the yield timer (R68 to R78). -/

namespace Sys2Proof.Machine

/-- The extent that an ownership order names and its active entry. -/
def Controller.orderClaim (c : Controller) (o : Order) : Option (Nat × ExtentEntry) :=
  match c.orderExtent o with
  | some (.found n e) => some (n, e)
  | _ => none

/-- The yield limit is read and the timer starts where it is above 0 (R69 step 4, R75); a failing word is a table
fault, which drops this claim with all others. -/
def Controller.startYieldTimer (c : Controller) (n : Nat) (holder : Channel) : Controller :=
  match c.tables.active.extent? n with
  | none => c
  | some e =>
    if !e.w3.good then c.tableFault
    else if e.yieldLimit = 0 then c
    else c.setClaim n (some (.wanted holder (some (e.yieldLimit * Config.tenthMs))))

/-- A CLAIM on an extent HELD by the other channel waits (R69): the record, WANTED, CLAIM-WANTED, the timer. A claim
that a table fault in step 3 has dropped goes no further. -/
def Controller.waitForClaim (c : Controller) (o : Order) (n : Nat) (holder : Channel) : Controller :=
  let c1 := c.addRecord { c.newRecord o .claim .claimWait with extent := some n }
  let c2 := (c1.setClaim n (some (.wanted holder none))).offer holder (.claimWanted n)
  match c2.claimAt n with
  | some (.wanted _ _) => c2.startYieldTimer n holder
  | _ => c2

/-- A CLAIM that reaches the Claim Unit (R68). -/
def Controller.acceptClaim (c : Controller) (o : Order) : Controller :=
  match c.orderClaim o with
  | none => c
  | some (n, e) =>
    if !e.exclusive then c.answerOrder o .notExclusive
    else match c.claimAt n with
      | some .free => (c.setClaim n (some (.held o.channel))).answerOrder o .granted
      | some (.held h) => if h == o.channel then c.answerOrder o .alreadyHeld else c.waitForClaim o n h
      | some (.wanted h _) => c.answerOrder o (if h == o.channel then .alreadyHeld else .claimPending)
      | some (.handingOver h _) => c.answerOrder o (if h == o.channel then .alreadyHeld else .claimPending)
      | none => c.answerOrder o .notExclusive

/-- CLAIM (R68, R69). -/
def execClaim (ch : Channel) (f : OrderFrame) (s : State) : Host.Outcome State Fault Refusal :=
  let o := Order.of .claim ch f
  s.run (·.order o (·.acceptClaim o))

/-- A YIELD, KEEP or RELEASE that reaches the Claim Unit: an extent with no claim state is not EXCLUSIVE (R74). -/
def Controller.onClaim (c : Controller) (o : Order) (act : Nat → Claim → Controller) : Controller :=
  match c.orderClaim o with
  | none => c
  | some (n, e) =>
    match e.exclusive, c.claimAt n with
    | true, some cl => act n cl
    | _, _ => c.answerOrder o .notExclusive

/-- The claim of a WANTED extent goes into HANDING-OVER to the waiter, the order answered DONE after the state change
(R71, R72, R77). -/
def Controller.handOver (c : Controller) (o : Order) (n : Nat) (toWaiter : Bool) : Controller :=
  c.enterHandover n o.channel toWaiter (·.answerOrder o .done)

/-- A YIELD (R71, R74). -/
def Controller.acceptYield (c : Controller) (o : Order) : Controller :=
  c.onClaim o fun n cl =>
    match cl with
    | .wanted h _ => if h == o.channel then c.handOver o n true else c.answerOrder o .notHolder
    | .held h => c.answerOrder o (if h == o.channel then .tooLate else .notHolder)
    | .handingOver h _ => c.answerOrder o (if h == o.channel then .tooLate else .notHolder)
    | .free => c.answerOrder o .notHolder

/-- YIELD (R71). -/
def execYield (ch : Channel) (f : OrderFrame) (s : State) : Host.Outcome State Fault Refusal :=
  let o := Order.of .yield ch f
  s.run (·.order o (·.acceptYield o))

/-- A KEEP (R70, R74). -/
def Controller.acceptKeep (c : Controller) (o : Order) : Controller :=
  c.onClaim o fun n cl =>
    match cl with
    | .wanted h _ =>
      if h == o.channel then
        ((c.setClaim n (some (.held h))).answerWaiter h.other n .kept).answerOrder o .done
      else c.answerOrder o .notHolder
    | .held h => c.answerOrder o (if h == o.channel then .tooLate else .notHolder)
    | .handingOver h _ => c.answerOrder o (if h == o.channel then .tooLate else .notHolder)
    | .free => c.answerOrder o .notHolder

/-- KEEP (R70). -/
def execKeep (ch : Channel) (f : OrderFrame) (s : State) : Host.Outcome State Fault Refusal :=
  let o := Order.of .keep ch f
  s.run (·.order o (·.acceptKeep o))

/-- A waiter's RELEASE (R73): its CLAIM is answered CANCELLED and leaves, then the RELEASE is answered DONE. -/
def Controller.withdrawClaim (c : Controller) (o : Order) (n : Nat) (cl : Claim) : Controller :=
  ((c.setClaim n (some cl.waiterGone)).answerWaiter o.channel n .cancelled).answerOrder o .done

/-- A RELEASE (R72, R73, R74). -/
def Controller.acceptRelease (c : Controller) (o : Order) : Controller :=
  c.onClaim o fun n cl =>
    match cl with
    | .free => c.answerOrder o .notHolder
    | .held h => if h == o.channel then c.handOver o n false else c.answerOrder o .notHolder
    | .wanted h t => if h == o.channel then c.handOver o n true else c.withdrawClaim o n (.wanted h t)
    | .handingOver h w =>
      if h == o.channel then c.answerOrder o .tooLate
      else if w then c.withdrawClaim o n (.handingOver h w)
      else c.answerOrder o .notHolder

/-- RELEASE (R72, R73). -/
def execRelease (ch : Channel) (f : OrderFrame) (s : State) : Host.Outcome State Fault Refusal :=
  let o := Order.of .release ch f
  s.run (·.order o (·.acceptRelease o))

/-- DRAIN_END (R59, R78): what the leaving that brings the drain count to 0 does (Controller.leave), done once more
(log 1). -/
def execDrainEnd (extent : Nat) (s : State) : Host.Outcome State Fault Refusal := s.run (·.endDrain extent)

/-- The yield timer of a WANTED claim expires (R76): CLAIM-LOST to the holder, and the handover. -/
def Controller.yieldExpires (c : Controller) (e : Nat) : Controller :=
  match c.claimAt e with
  | some (.wanted h (some _)) => c.enterHandover e h true (·.offer h (.claimLost e))
  | _ => c

/-- YIELD_TIMER_EXPIRY (R76). -/
def execYieldTimerExpiry (extent : Nat) (s : State) : Host.Outcome State Fault Refusal :=
  s.run (·.yieldExpires extent)

end Sys2Proof.Machine
end

