-- ==== Sys2Proof/Machine/Transfers.lean ====
section
/-! DEFINITION. The drive's reports to the Transfer Engine: seek-complete and its limits, headers, data fields and
format slots (R4, R87 to R96). -/

namespace Sys2Proof.Machine

/-- The end of the loading recalibration (R125): the Engine's cylinder becomes 0 and its mark is cleared (R85); READY
where the drive is wanted, UNLOADING on the way down otherwise. -/
def Controller.headsLoaded (c : Controller) : Controller :=
  let c1 := (c.modDrive fun d => { d with recalWait := none, heads := .loaded }).setEngine
    { c.engine with cylinder := 0, recalPending := false }
  if c1.driveWanted then c1.enterReady else c1.beginUnload false

/-- A seek-complete for the Engine (R87, R88): the end of a recalibration clears the mark that caused it and is followed
by the seek, the end of a seek by the work at the cylinder. -/
def Controller.engineSeekComplete (c : Controller) : Controller :=
  c.withActive fun w _ =>
    match w.phase with
    | .recalibrating target forMark =>
      (c.setEngine { c.engine with cylinder := 0, recalPending := c.engine.recalPending && !forMark }).seekTo w target
    | .seeking target => (c.setEngine { c.engine with cylinder := target }).positioned
    | _ => c

/-- The drive reports seek-complete. -/
def Controller.seekCompleted (c : Controller) : Controller :=
  if c.drive.state == .loadingHeads then (if c.drive.recalWait.isSome then c.headsLoaded else c)
  else c.engineSeekComplete

/-- SEEK_COMPLETE (R87, R88, R125). -/
def execSeekComplete (s : State) : Host.Outcome State Fault Refusal := s.run (·.seekCompleted)

/-- A seek has failed (R87): the current cylinder is left at the target, the mark is set, a hard SEEK error. At a reread
too the sector is then no counted read (DEDUCED, log 43). -/
def Controller.seekFailed (c : Controller) : Controller :=
  c.withActive fun w _ =>
    match w.phase with
    | .seeking target => (c.setEngine { c.engine with cylinder := target, recalPending := true }).hardError .seek
    | _ => c

/-- SEEK_TIMEOUT (R87). -/
def execSeekTimeout (s : State) : Host.Outcome State Fault Refusal := s.run (·.seekFailed)

/-- A recalibration of the Engine has failed (R88); the sector is no counted read (DEDUCED, log 43). -/
def Controller.recalibrationFailed (c : Controller) : Controller :=
  c.withActive fun w _ =>
    match w.phase with
    | .recalibrating _ _ => (c.setEngine { c.engine with recalPending := true }).hardError .seek
    | _ => c

/-- RECALIBRATION_TIMEOUT (R88). -/
def execRecalibrationTimeout (s : State) : Host.Outcome State Fault Refusal := s.run (·.recalibrationFailed)

/-- A header passes under the selected head (R4, R89). -/
def Controller.headerPasses (c : Controller) (cylinder : Word) (head sector : Nat) (check : Word) : Controller :=
  c.withActive fun w _ =>
    match w.phase, w.inHand with
    | .searching _, some sec =>
      match headerCase sec.loc cylinder head sector check with
      | .found => c.headerFound
      | .cylinderMismatch => c.headerMiss
      | .unreadable => c
      | .otherSector => c
    | _, _ => c

/-- HEADER_READ (R4, R89). -/
def execHeaderRead (cylinder : Word) (head sector : Nat) (check : Word) (s : State) : Host.Outcome State Fault Refusal :=
  s.run (·.headerPasses cylinder head sector check)

/-- A data field has been read (R90, R91): its words are in the buffer of a READ, and its check is compared. -/
def Controller.fieldRead (c : Controller) (words : List Word) (check : Word) : Controller :=
  c.withActive fun w r =>
    match w.phase with
    | .reading =>
      let c1 := c.storeRead r words
      if check == checkWord words then c1.readMatched else c1.readFailed
    | _ => c

/-- DATA_FIELD_READ (R90, R91). -/
def execDataFieldRead (words : List Word) (check : Word) (s : State) : Host.Outcome State Fault Refusal :=
  s.run (·.fieldRead words check)

/-- A data field and its check word have been written (R93, R94). -/
def Controller.fieldWritten (c : Controller) : Controller :=
  c.withActive fun w _ =>
    match w.phase with
    | .writing => if w.verifyFlag then c.searchAgain w .reread else c.completeSector
    | _ => c

/-- DATA_FIELD_WRITTEN (R93, R94). -/
def execDataFieldWritten (s : State) : Host.Outcome State Fault Refusal := s.run (·.fieldWritten)

/-- The verify reread agrees: every word with the buffer, and the recorded check word with the check over the words
read (R94). -/
def Controller.verifyAgrees (c : Controller) (r : Record) (words : List Word) (check : Word) : Bool :=
  words == c.bufferWords r.bufferInHand && check == checkWord words

/-- A mismatch of the verify reread (R94): the one rewrite, unless a stop forbids it (R102), and then a hard
WRITE-VERIFY error. -/
def Controller.verifyMismatch (c : Controller) (w : Work) (r : Record) : Controller :=
  if w.rewrite then
    (c.reportSuspect (r.job.start + r.done) .writeVerify r.channel).hardError .writeVerify
  else match c.writeStop w with
    | some st => c.endByStop st
    | none => c.searchAgain { w with rewrite := true } .write

/-- The verify reread of a written sector ends (R94). -/
def Controller.rereadDone (c : Controller) (words : List Word) (check : Word) : Controller :=
  c.withActive fun w r =>
    match w.phase with
    | .rereading =>
      if c.verifyAgrees r words check then (c.markSoft w.rewrite).completeSector else c.verifyMismatch w r
    | _ => c

/-- VERIFY_REREAD_DONE (R94). -/
def execVerifyRereadDone (words : List Word) (check : Word) (s : State) : Host.Outcome State Fault Refusal :=
  s.run (·.rereadDone words check)

/-- A format slot has been written (R95). -/
def Controller.slotWritten (c : Controller) : Controller :=
  c.withActive fun w _ =>
    match w.phase with
    | .formatting slot =>
      if Config.sectorsPerTrack ≤ slot + 1 then c.endActive .done none none else c.slotBoundary (slot + 1)
    | _ => c

/-- FORMAT_SLOT_WRITTEN (R95). -/
def execFormatSlotWritten (s : State) : Host.Outcome State Fault Refusal := s.run (·.slotWritten)

end Sys2Proof.Machine
end

