-- ==== Sys2Proof/Machine/DriveEvents.lean ====
section
/-! DEFINITION. The events of the Drive Sequencer: pulses, the write-fault and supply lines, the cartridge line, the
spindle at rest and the timers (R121 to R135). -/

namespace Sys2Proof.Machine

/-! Index pulses. -/

/-- Spin-up lock (R124): the spin-up timer stops, and the drive goes on to LOADING-HEADS or down again. -/
def Controller.spinUpLock (c : Controller) (lock : Bool) : Controller :=
  if c.drive.state == .spinningUp && lock && decide (Config.lockRevolutions ≤ c.drive.inTolerance) then
    let c1 := c.modDrive fun d => { d with spinUp := none }
    if c1.driveWanted then c1.enterLoading else c1.enterSpinningDown
  else c

/-- An index pulse for the Engine: the second one of a search is a miss (R4, R89), and a format begins (R95). -/
def Controller.enginePulse (c : Controller) : Controller :=
  c.withActive fun w _ =>
    match w.phase with
    | .searching 0 => c.setWork (some { w with phase := .searching 1 })
    | .searching _ => c.headerMiss
    | .awaitingIndex => c.slotBoundary 0
    | _ => c

/-- An index pulse (R123, R124, R128). -/
def Controller.indexPulse (c : Controller) (period : Nat) (lock : Bool) : Controller :=
  let c1 := c.modDrive fun d => d.pulse period
  if c1.drive.speedFaultDue then c1.speedFault else (c1.spinUpLock lock).enginePulse

/-- INDEX_PULSE (R123). -/
def execIndexPulse (period : Nat) (lock : Bool) (s : State) : Host.Outcome State Fault Refusal :=
  s.run (·.indexPulse period lock)

/-- 25.5 ms without an index pulse (R123, R128). -/
def Controller.pulseMissing (c : Controller) : Controller :=
  let c1 := c.modDrive fun d => d.missedPulse
  if c1.drive.speedFaultDue then c1.speedFault else c1

/-- MISSING_PULSE (R123). -/
def execMissingPulse (s : State) : Host.Outcome State Fault Refusal := s.run (·.pulseMissing)

/-! The write-fault line. -/

/-- A write fault during a field or slot that the Engine is writing (R93, R95): the TORN report and the hard error. -/
def Controller.writeFaulted (c : Controller) : Controller :=
  c.withActive fun w r =>
    match w.phase, r.job with
    | .writing, _ => (c.reportSuspect (r.job.start + r.done) .torn r.channel).hardError .writeFault
    | .formatting slot, .formatTrack cyl hd _ =>
      if cyl < Config.firstSpareCylinder then
        (c.reportSuspect (cyl * Config.sectorsPerCylinder + hd * Config.sectorsPerTrack + slot) .torn
          r.channel).hardError .writeFault
      else c.hardError .writeFault
    | _, _ => c

/-- The write-fault line is raised (R130); a fault clearing starts at the end of the step (Controller.settle). -/
def Controller.writeFaultRaised (c : Controller) : Controller :=
  (c.modDrive fun d => { d with writeFaultLine := true }).writeFaulted

/-- WRITE_FAULT (R93, R130). -/
def execWriteFault (s : State) : Host.Outcome State Fault Refusal := s.run (·.writeFaultRaised)

/-- The 50 ms wait of a fault clearing ends (R130, steps 3 to 5). -/
def Controller.faultClearWaited (c : Controller) (raised : Bool) : Controller :=
  if !(c.drive.clearing && c.drive.state == .ready) then c
  else
    let c1 := c.modDrive fun d => { d with writeFaultLine := raised }
    if !raised then (c1.modDrive fun d => { d with clearing := false }).offSequence
    else if c1.drive.clearCount < Config.maxFaultClears then
      (c1.modDrive fun d => { d with clearCount := d.clearCount + 1 }).send .faultClear
    else (c1.send .headsOff).enterFaulted .writeFault

/-- FAULT_CLEAR_WAIT_EXPIRY (R130). -/
def execFaultClearWaitExpiry (raised : Bool) (s : State) : Host.Outcome State Fault Refusal :=
  s.run (·.faultClearWaited raised)

/-! The supply line. -/

/-- Supply-low (R129). -/
def Controller.supplyLow (c : Controller) : Controller :=
  let c1 := c.modDrive fun d => { d with supplyGood := false }
  if c1.drive.state.spinning then c1.supplyDown
  else if c1.drive.state.isFaulted && c1.drive.spindleOn then c1.spindleOff
  else c1

/-- SUPPLY_LOW (R129). -/
def execSupplyLow (s : State) : Host.Outcome State Fault Refusal := s.run (·.supplyLow)

/-- Supply return (R129). -/
def Controller.supplyReturn (c : Controller) : Controller :=
  (c.modDrive fun d => { d with supplyGood := true }).tryStart

/-- SUPPLY_RETURN (R129). -/
def execSupplyReturn (s : State) : Host.Outcome State Fault Refusal := s.run (·.supplyReturn)

/-! The cartridge. -/

/-- The cartridge-present line changes; it is acted on while the interlock is unlocked (R135). -/
def Controller.cartridgeChange (c : Controller) (present : Bool) : Controller :=
  let c1 := c.modDrive fun d => { d with cartridgeLine := present }
  if c1.drive.interlockLocked then c1 else c1.readCartridgeLine.tryStart

/-- CARTRIDGE_INSERTED (R135). -/
def execCartridgeInserted (s : State) : Host.Outcome State Fault Refusal := s.run (·.cartridgeChange true)

/-- CARTRIDGE_REMOVED (R135). -/
def execCartridgeRemoved (s : State) : Host.Outcome State Fault Refusal := s.run (·.cartridgeChange false)

/-! The spindle and the timers. -/

/-- The spindle is reported at rest: no revolution is measured any more (R121, R123). -/
def Sequencer.rest (d : Sequencer) : Sequencer := { d with atRest := true, pulseSeen := false, alreadyCounted := false }

/-- The spindle is reported at rest (R121). While it is commanded on that is all; after it was commanded off the
cool-down timer starts, from each report, and SPINNING-DOWN passes to COOLING (log 45). -/
def Controller.spindleRests (c : Controller) : Controller :=
  if c.drive.spindleOn then c.modDrive (·.rest)
  else
    let p := c.readCoolDown
    let c1 := p.1.modDrive fun d => { d.rest with restedOff := true, coolDown := some p.2 }
    if c1.drive.state == .spinningDown then c1.enterCooling else c1

/-- SPINDLE_AT_REST (R121). -/
def execSpindleAtRest (s : State) : Host.Outcome State Fault Refusal := s.run (·.spindleRests)

/-- The cool-down timer expires (R121): COOLING passes to STOPPED, and a start that waited for it in STOPPED takes place
(R122; log 45). -/
def Controller.coolDownEnds (c : Controller) : Controller :=
  if c.drive.coolDown.isSome then
    let c1 := c.modDrive fun d => { d with coolDown := none }
    if c1.drive.state == .cooling then c1.enterStopped else c1.tryStart
  else c

/-- COOL_DOWN_EXPIRY (R121). -/
def execCoolDownExpiry (s : State) : Host.Outcome State Fault Refusal := s.run (·.coolDownEnds)

/-- The spin-up timer expires before lock (R124). -/
def Controller.spinUpEnds (c : Controller) : Controller :=
  if c.drive.state == .spinningUp && c.drive.spinUp.isSome then
    ((c.modDrive fun d => { d with spinUp := none }).spindleOff).enterFaulted .spinUp
  else c

/-- SPIN_UP_LIMIT_EXPIRY (R124). -/
def execSpinUpLimitExpiry (s : State) : Host.Outcome State Fault Refusal := s.run (·.spinUpEnds)

/-- The head-load timer expires (R125): a recalibration is commanded. -/
def Controller.headLoadEnds (c : Controller) : Controller :=
  if c.drive.state == .loadingHeads && c.drive.headLoad.isSome then
    (c.modDrive fun d => { d with headLoad := none, recalWait := some Config.loadingRecalMs }).send .recalibrate
  else c

/-- HEAD_LOAD_EXPIRY (R125). -/
def execHeadLoadExpiry (s : State) : Host.Outcome State Fault Refusal := s.run (·.headLoadEnds)

/-- The loading recalibration gets no seek-complete in time (R125). The Engine's recalibration-pending mark stays as it
was (DEDUCED, log 46). -/
def Controller.loadingRecalFails (c : Controller) : Controller :=
  if c.drive.state == .loadingHeads && c.drive.recalWait.isSome then
    ((c.modDrive fun d => { d with recalWait := none }).send .headsOff).enterFaulted .recal
  else c

/-- LOADING_RECAL_TIMEOUT (R125). -/
def execLoadingRecalTimeout (s : State) : Host.Outcome State Fault Refusal := s.run (·.loadingRecalFails)

/-- The unload is complete (R127, R133, R134; log 37): down where the target is OFF and the flush done, PARKED
otherwise. -/
def Controller.unloaded (c : Controller) : Controller :=
  if c.drive.state == .unloading && c.drive.unloadWait.isSome then
    let c1 := c.modDrive fun d => { d with unloadWait := none, heads := .unloaded }
    if !c1.drive.targetOn && c1.flushDone then c1.enterSpinningDown
    else (c1.modDrive fun d => { d with state := .parked }).announce
  else c

/-- UNLOAD_COMPLETE (R127). -/
def execUnloadComplete (s : State) : Host.Outcome State Fault Refusal := s.run (·.unloaded)

/-- The idle timer expires (R127). -/
def Controller.idleEnds (c : Controller) : Controller :=
  if c.drive.state == .ready && c.drive.idle.isSome then c.beginUnload true else c

/-- IDLE_EXPIRY (R127). -/
def execIdleExpiry (s : State) : Host.Outcome State Fault Refusal := s.run (·.idleEnds)

/-- The ready-wait timer expires (R132): the disk records that wait on the drive are ended. -/
def Controller.readyWaitEnds (c : Controller) : Controller :=
  if c.drive.readyWait.isSome then
    (c.modDrive fun d => { d with readyWait := none }).endAllWaiting
      (fun r => { r.answer .notReady with kind := some .notReady }) (some .notReady)
  else c

/-- READY_WAIT_EXPIRY (R132). -/
def execReadyWaitExpiry (s : State) : Host.Outcome State Fault Refusal := s.run (·.readyWaitEnds)

end Sys2Proof.Machine
end

