-- ==== Sys2Proof/Machine/Management.lean ====
section
/-! DEFINITION. The management orders of the Drive Sequencer, the Work List and Media Watch (R117, R120, R133, R134,
R161, R165). -/

namespace Sys2Proof.Machine

/-! SET-DRIVE-TARGET. -/

/-- Target OFF (R133): the WAITING disk records are answered DRIVE-FAULT, the LINGERING ones stay; a flush that is
done at once goes on to the off sequence, and FAULTED is left. -/
def Controller.targetOff (c : Controller) : Controller :=
  ((c.modDrive fun d => { d with targetOn := false }).endAllWaiting (fun r => r.answer .driveFault) none).offSequence

/-- Target ON (R120, R122, R134). -/
def Controller.targetOn (c : Controller) : Controller := (c.modDrive fun d => { d with targetOn := true }).tryStart

/-- A SET-DRIVE-TARGET is answered DONE at once; the value already held changes nothing (R120). -/
def Controller.acceptTarget (c : Controller) (o : Order) : Controller :=
  match o.operands with
  | some (.target on) =>
    let c1 := c.answerOrder o .done
    if on == c1.drive.targetOn then c1 else if on then c1.targetOn else c1.targetOff
  | _ => c

/-- SET_DRIVE_TARGET (R120). -/
def execSetDriveTarget (ch : Channel) (f : OrderFrame) (s : State) : Host.Outcome State Fault Refusal :=
  let o := Order.of .setDriveTarget ch f
  s.run (·.order o (·.acceptTarget o))

/-- TARGET_OFF_FLUSH_DONE (R133). -/
def execTargetOffFlushDone (s : State) : Host.Outcome State Fault Refusal := s.run (·.offSequence)

/-! CLEAR-DEFERRED, CLEAR-SUSPECT, CLEAR-MONITOR. -/

/-- A CLEAR-DEFERRED is answered with the sending channel's deferred error record, and empties it (R117). -/
def Controller.acceptClearDeferred (c : Controller) (o : Order) : Controller :=
  (c.placeAnswer o.channel
    { Answer.plain o.frame.tag o.code .done with deferred := c.work.deferred.get o.channel }).setDeferred o.channel none

/-- CLEAR_DEFERRED (R117). -/
def execClearDeferred (ch : Channel) (f : OrderFrame) (s : State) : Host.Outcome State Fault Refusal :=
  let o := Order.of .clearDeferred ch f
  s.run (·.order o (·.acceptClearDeferred o))

/-- The Suspect List after a CLEAR-SUSPECT (R165). -/
def Media.clearSuspect (m : Media) : Operands → Media
  | .suspect n => { m with suspects := m.suspects.filter (·.lsa != n) }
  | .suspectAll => { m with suspects := [], suspectOverflow := false }
  | _ => m

/-- A CLEAR-SUSPECT (R165). -/
def Controller.acceptClearSuspect (c : Controller) (o : Order) : Controller :=
  (c.setMedia (c.media.clearSuspect (o.operands.getD .none))).answerOrder o .done

/-- CLEAR_SUSPECT (R165). -/
def execClearSuspect (ch : Channel) (f : OrderFrame) (s : State) : Host.Outcome State Fault Refusal :=
  let o := Order.of .clearSuspect ch f
  s.run (·.order o (·.acceptClearSuspect o))

/-- A CLEAR-MONITOR (R161): DEGRADED and the consecutive count are cleared and a new window starts. -/
def Controller.acceptClearMonitor (c : Controller) (o : Order) : Controller :=
  (c.setMedia { c.media with consecutive := 0, degraded := false }).startWindow.answerOrder o .done

/-- CLEAR_MONITOR (R161). -/
def execClearMonitor (ch : Channel) (f : OrderFrame) (s : State) : Host.Outcome State Fault Refusal :=
  let o := Order.of .clearMonitor ch f
  s.run (·.order o (·.acceptClearMonitor o))

end Sys2Proof.Machine
end

