-- ==== Sys2Proof/Machine/Orders.lean ====
section
/-! DEFINITION. The undefined function, the probe, the disk orders, SYNC with its completion, and the inquiries
answered by the Checker and Media Watch (R21, R30, R35, R36, R105, R113 to R115, R165). -/

namespace Sys2Proof.Machine

/-- UNDEFINED_FUNCTION (R21): refused at check 2; the answer carries the code as received. -/
def execUndefinedFunction (ch : Channel) (code : BitVec 6) (f : OrderFrame) (s : State) :
    Host.Outcome State Fault Refusal :=
  s.run (·.order { channel := ch, frame := f, code := code, fn := none } id)

/-- NULL (R36). -/
def execNull (ch : Channel) (f : OrderFrame) (s : State) : Host.Outcome State Fault Refusal :=
  let o := Order.of .null ch f
  s.run (·.order o (·.answerOrder o .done))

/-! Disk orders (R30). -/

def Controller.acceptRead (c : Controller) (o : Order) : Controller :=
  match o.operands with
  | some (.sectors start count) => c.acceptDisk o (.read start count)
  | _ => c

def Controller.acceptVerify (c : Controller) (o : Order) : Controller :=
  match o.operands with
  | some (.sectors start count) => c.acceptDisk o (.verify start count)
  | _ => c

def Controller.acceptWriteOrder (c : Controller) (o : Order) : Controller :=
  match o.operands with
  | some (.writeData start count data) => c.acceptWrite o start count data
  | _ => c

def Controller.acceptFormat (c : Controller) (o : Order) : Controller :=
  match o.operands with
  | some (.track cylinder head fill) => c.acceptDisk o (.formatTrack cylinder head fill)
  | _ => c

def Controller.acceptSeek (c : Controller) (o : Order) : Controller :=
  match o.operands with
  | some (.lsa n) => c.acceptDisk o (.seek n)
  | _ => c

/-- READ (R30). -/
def execRead (ch : Channel) (f : OrderFrame) (s : State) : Host.Outcome State Fault Refusal :=
  let o := Order.of .read ch f
  s.run (·.order o (·.acceptRead o))

/-- WRITE (R30, R105). -/
def execWrite (ch : Channel) (f : OrderFrame) (s : State) : Host.Outcome State Fault Refusal :=
  let o := Order.of .write ch f
  s.run (·.order o (·.acceptWriteOrder o))

/-- VERIFY (R30). -/
def execVerify (ch : Channel) (f : OrderFrame) (s : State) : Host.Outcome State Fault Refusal :=
  let o := Order.of .verify ch f
  s.run (·.order o (·.acceptVerify o))

/-- FORMAT_TRACK (R30). -/
def execFormatTrack (ch : Channel) (f : OrderFrame) (s : State) : Host.Outcome State Fault Refusal :=
  let o := Order.of .formatTrack ch f
  s.run (·.order o (·.acceptFormat o))

/-- SEEK (R30). -/
def execSeek (ch : Channel) (f : OrderFrame) (s : State) : Host.Outcome State Fault Refusal :=
  let o := Order.of .seek ch f
  s.run (·.order o (·.acceptSeek o))

/-! SYNC. -/

/-- The awaited records are raised to URGENT (R114). -/
def Controller.raiseEarly (c : Controller) (ch : Channel) : Controller :=
  c.setRecords (c.records.map fun r => if r.unwrittenEarly ch then { r with cls := some .urgent } else r)

/-- A SYNC that passed its checks (R113). -/
def Controller.acceptSync (c : Controller) (o : Order) : Controller :=
  if c.hasEarly o.channel then (c.raiseEarly o.channel).addRecord (c.newRecord o .sync .syncWait)
  else c.placeAnswer o.channel (c.syncAnswer o.channel o.frame.tag)

/-- SYNC (R113 to R115). -/
def execSync (ch : Channel) (f : OrderFrame) (s : State) : Host.Outcome State Fault Refusal :=
  let o := Order.of .sync ch f
  s.run (·.order o (·.acceptSync o))

/-- SYNC_COMPLETION (R114, R115): the test that every leaving of an awaited record makes (Controller.leave), made once
more (log 1). -/
def execSyncCompletion (ch : Channel) (s : State) : Host.Outcome State Fault Refusal := s.run (·.completeSyncs ch)

/-! Inquiries. -/

/-- A STATUS is answered with the status block, and clears the channel's notice overflow flag (R35). -/
def Controller.acceptStatus (c : Controller) (o : Order) : Controller :=
  (c.placeAnswer o.channel
    { Answer.plain o.frame.tag o.code .done with body := .status (c.statusBlock o.channel) }).modPort o.channel
    fun p => { p with overflow := false }

/-- STATUS (R35). -/
def execStatus (ch : Channel) (f : OrderFrame) (s : State) : Host.Outcome State Fault Refusal :=
  let o := Order.of .status ch f
  s.run (·.order o (·.acceptStatus o))

/-- READ-SUSPECT is answered with the Suspect List, oldest first (R36, R165). -/
def Controller.acceptReadSuspect (c : Controller) (o : Order) : Controller :=
  c.placeAnswer o.channel { Answer.plain o.frame.tag o.code .done with body := .suspects c.media.suspects }

/-- READ_SUSPECT (R36). -/
def execReadSuspect (ch : Channel) (f : OrderFrame) (s : State) : Host.Outcome State Fault Refusal :=
  let o := Order.of .readSuspect ch f
  s.run (·.order o (·.acceptReadSuspect o))

end Sys2Proof.Machine
end

