-- ==== Sys2Proof/Machine/Links.lean ====
section
/-! DEFINITION. Power-on and the Channel Ports: link-present, discarded frames, the escalation timer, the words taken
outbound and the stall limit (R166 to R171, R180). -/

namespace Sys2Proof.Machine

/-- POWER_ON (R180): every block takes its power-on values. -/
def execPowerOn (cartridge supply writeFault : Bool) (s : State) : Host.Outcome State Fault Refusal :=
  s.run fun _ => .powerOn cartridge supply writeFault

/-- The link-present line rises (R166). -/
def Controller.linkRises (c : Controller) (ch : Channel) : Controller :=
  if (c.port ch).link == .detached then
    (c.modPort ch fun p => { p with link := .attached }).offer ch.other (.linkAttached ch)
  else c

/-- LINK_PRESENT_RISES (R166). -/
def execLinkPresentRises (ch : Channel) (s : State) : Host.Outcome State Fault Refusal := s.run (·.linkRises ch)

/-- What a discarded frame leaves of the frame being received: the marked word that cut it short begins the next frame
(R167). -/
def keptOfDiscarded : DiscardCause → List Word
  | .cutByMark w => [w]
  | .parity | .noMark | .badType | .badResetLevel | .lengthBelowTwo | .badResetLength => []

/-- An inbound frame is discarded and counted (R167). -/
def Controller.discardFrame (c : Controller) (ch : Channel) (cause : DiscardCause) : Controller :=
  if (c.port ch).link == .detached then c
  else c.modPort ch fun p => { p with errorCount := min (p.errorCount + 1) 255, inbound := keptOfDiscarded cause }

/-- FRAME_DISCARDED (R167). -/
def execFrameDiscarded (ch : Channel) (cause : DiscardCause) (s : State) : Host.Outcome State Fault Refusal :=
  s.run (·.discardFrame ch cause)

/-- The escalation timer expires (R168). -/
def Controller.escalationEnds (c : Controller) (ch : Channel) : Controller :=
  let p := c.port ch
  if p.link == .recovering && p.escalation.isSome then
    c.setPort ch { p with link := .attached, escalation := none }
  else c

/-- ESCALATION_TIMER_EXPIRY (R168). -/
def execEscalationTimerExpiry (ch : Channel) (s : State) : Host.Outcome State Fault Refusal :=
  s.run (·.escalationEnds ch)

/-- No outbound frame is in progress. -/
def Port.frameEnds (p : Port) : Port := { p with out := none, stall := none }

/-- A data frame has been taken whole: the buffer of its sector is free (R44, R170). -/
def Controller.dataFrameTaken (c : Controller) (ch : Channel) : Controller :=
  match (c.port ch).delivery.head? with
  | none => c
  | some seq => c.modRecord seq fun r => { r with buffers := r.buffers.drop 1, sent := r.sent + 1 }

/-- The answer frame of a delivery has been taken whole: its record leaves (R57). -/
def Controller.deliveryTaken (c : Controller) (ch : Channel) : Controller :=
  match (c.port ch).delivery.head? with
  | none => c
  | some seq => c.leave seq none

/-- The last word of a frame has been taken (R169, R170); of a stopped frame, the word that was in progress, and
nothing leaves with it. -/
def Controller.frameDone (c : Controller) (ch : Channel) (source : FrameSource) : Controller :=
  let c1 := c.modPort ch (·.frameEnds)
  match source with
  | .data => c1.dataFrameTaken ch
  | .deliveryAnswer => c1.deliveryTaken ch
  | .answer => c1.modPort ch fun p => { p with ready := p.ready.drop 1 }
  | .notice => c1.modPort ch fun p => { p with notices := p.notices.drop 1 }
  | .stopped => c1

/-- The computer takes the word that waits (R169); the stall timer restarts at every word of a delivery (R170). -/
def Controller.takeWord (c : Controller) (ch : Channel) : Controller :=
  let p := c.port ch
  match p.out with
  | none => c
  | some f =>
    match f.words with
    | _ :: w :: rest =>
      c.setPort ch
        { p with
          out := some { f with words := w :: rest }
          stall := if f.ofDelivery then some Config.stallMs else none }
    | _ => c.frameDone ch f.source

/-- OUTBOUND_WORD_TAKEN (R169, R170). -/
def execOutboundWordTaken (ch : Channel) (s : State) : Host.Outcome State Fault Refusal := s.run (·.takeWord ch)

/-- The answer of an abandoned delivery (R170). -/
def Record.stallAnswer (r : Record) : Answer :=
  let a := r.prepared.getD (r.answer .done)
  if r.sent < r.done then
    { a with code := .short, kind := some .stalled, lsa := some (r.job.start + r.sent), done := r.sent }
  else a

/-- The stall timer expires and the delivery is abandoned (R57, R170). -/
def Controller.stallEnds (c : Controller) (ch : Channel) : Controller :=
  let p := c.port ch
  if p.stall.isSome then
    match p.delivery.head?.bind c.findRecord with
    | none => c
    | some r => c.leave r.seq (some r.stallAnswer)
  else c

/-- STALL_LIMIT (R170). -/
def execStallLimit (ch : Channel) (s : State) : Host.Outcome State Fault Refusal := s.run (·.stallEnds ch)

end Sys2Proof.Machine
end

