-- ==== Sys2Proof/Machine/Resets.lean ====
section
/-! DEFINITION. The resets of the three levels, the fall of link-present, and the level-3 values (R83, R84, R172 to
R176). -/

namespace Sys2Proof.Machine

/-- The four states of a record that a reset removes or answers (R173, R175). -/
def Record.waits (r : Record) : Bool :=
  r.state == .waiting || r.state == .claimWait || r.state == .syncWait || r.state == .commitWait

/-- The leaving of a CLAIM-WAIT record by a reset is a waiter's RELEASE (R83, R84). -/
def Controller.waiterLeaves (c : Controller) (r : Record) : Controller :=
  match r.state, r.extent with
  | .claimWait, some e =>
    match c.claimAt e with
    | some cl => if cl.waiter == some r.channel then c.setClaim e (some cl.waiterGone) else c
    | none => c
  | _, _ => c

/-- A waiting record leaves by a reset, with or without an answer, and with the claim effect. -/
def Controller.resetRecord (c : Controller) (ans : Option (Record → Answer)) (r : Record) : Controller :=
  (c.leave r.seq (ans.map fun f => f r)).waiterLeaves r

/-- Steps 1 and 2 of a level-1 reset (R173): the channel's waiting and DELIVERING records leave without answers. -/
def Controller.removeRecords (c : Controller) (ch : Channel) : Controller :=
  let c1 := (c.records.filter fun r => r.channel == ch && r.waits).foldl (fun c r => c.resetRecord none r) c
  (c1.records.filter fun r => r.channel == ch && r.state == .delivering).foldl (fun c r => c.leave r.seq none) c1

/-- Step 3 (R103, R173): the channel's ACTIVE record receives the silent mark. -/
def Controller.silence (c : Controller) (ch : Channel) : Controller :=
  c.setRecords (c.records.map fun r => if r.channel == ch && r.state == .active then { r with silent := true } else r)

/-- Steps 4 and 5 for the port (R173): ready answers cleared, the Notice Queue emptied, its overflow flag cleared, and
whatever frame carried them stopped after the word in progress (R169; at a link fall too, log 42). -/
def Port.clear (p : Port) : Port :=
  ({ p with ready := [], notices := [], overflow := false, delivery := [] } : Port).stopFrame

/-- A level-1 reset of a channel, less what becomes of its link (R173, steps 1 to 6); `level` is the level that
RESET-DONE carries. -/
def Controller.resetChannel (c : Controller) (ch : Channel) (level : Nat) : Controller :=
  ((((c.removeRecords ch).silence ch).setDeferred ch none).modPort ch (·.clear)).offerBoth (.resetDone level ch)

/-- A recalibration under way was commanded before the reset that now sets the mark, so its success leaves the mark for
the first record dispatched after the reset (R88; DEDUCED, log 41). -/
def Work.keepMark (w : Work) : Work :=
  match w.phase with
  | .recalibrating target _ => { w with phase := .recalibrating target false }
  | _ => w

/-- What a level-2 reset does beyond level 1 (R174): a pending stop for the ACTIVE record of either channel, and the
recalibration-pending mark. -/
def Controller.stopAndMark (c : Controller) (ch : Channel) : Controller :=
  let c1 := c.givePendingStop (.level2 ch)
  c1.setEngine { c1.engine with recalPending := true, work := c1.engine.work.map (·.keepMark) }

/-- The link of a RESET frame of level 1 or 2 becomes RECOVERING and the escalation timer starts (R168, R173). -/
def Controller.recover (c : Controller) (ch : Channel) : Controller :=
  c.modPort ch fun p => { p with link := .recovering, escalation := some Config.escalationMs }

/-- A frame taken as level 1 (R173). -/
def Controller.levelOne (c : Controller) (ch : Channel) : Controller := (c.resetChannel ch 1).recover ch

/-- A frame taken as level 2 (R174). -/
def Controller.levelTwo (c : Controller) (ch : Channel) : Controller :=
  ((c.stopAndMark ch).resetChannel ch 2).recover ch

/-- A yield timer stops (R84). -/
def Claim.timerStopped : Claim → Claim
  | .wanted h _ => .wanted h none
  | cl => cl

/-- The taking of a level-3 reset (R175): yield timers stop, the waiting records of both channels are answered RESET in
acceptance order, the DELIVERING records leave without answers, and the flush begins. -/
def Controller.levelThree (c : Controller) (ch : Channel) : Controller :=
  let c1 : Controller := { c with claims := c.claims.map (Option.map Claim.timerStopped) }
  let c2 := (c1.records.filter (·.waits)).foldl (fun c r => c.resetRecord (some fun r => r.answer .reset) r) c1
  let c3 := (c2.records.filter (·.state == .delivering)).foldl (fun c r => c.leave r.seq none) c2
  { c3 with level3 := some ch }

/-- A RESET frame is taken (R172): no effect on a link that is down (log 32) or while a level-3 reset is in progress. -/
def Controller.resetFrame (c : Controller) (ch : Channel) (take : Controller → Controller) : Controller :=
  if (c.port ch).link == .detached then c
  else if c.level3.isSome then c.frameTaken ch
  else take (c.frameTaken ch)

/-- A level-1 frame: level 2 where it finds RECOVERING (R172). -/
def Controller.frameLevelOne (c : Controller) (ch : Channel) : Controller :=
  if (c.port ch).link == .recovering then c.levelTwo ch else c.levelOne ch

/-- A level-3 frame: level 2 from a channel without management; the word is tested as it is read (R172). -/
def Controller.frameLevelThree (c : Controller) (ch : Channel) : Controller :=
  let c1 := c.testWord (c.channelRecord ch).w0
  if (c1.channelRecord ch).management then c1.levelThree ch else c1.levelTwo ch

/-- RESET_LEVEL_1 (R172, R173). -/
def execResetLevel1 (ch : Channel) (s : State) : Host.Outcome State Fault Refusal :=
  s.run (·.resetFrame ch (·.frameLevelOne ch))

/-- RESET_LEVEL_2 (R172, R174). -/
def execResetLevel2 (ch : Channel) (s : State) : Host.Outcome State Fault Refusal :=
  s.run (·.resetFrame ch (·.levelTwo ch))

/-- RESET_LEVEL_3 (R172, R175). -/
def execResetLevel3 (ch : Channel) (s : State) : Host.Outcome State Fault Refusal :=
  s.run (·.resetFrame ch (·.frameLevelThree ch))

/-- The link-present line falls (R166): a level-1 reset that does not count for escalation, and DETACHED. -/
def Controller.linkFalls (c : Controller) (ch : Channel) : Controller :=
  if (c.port ch).link == .detached then c
  else (c.resetChannel ch 1).modPort ch fun p => { p with link := .detached, escalation := none, inbound := [] }

/-- LINK_PRESENT_FALLS (R166, R173). -/
def execLinkPresentFalls (ch : Channel) (s : State) : Host.Outcome State Fault Refusal := s.run (·.linkFalls ch)

/-- The level-3 value of a port (R176): Notice Queue and Delivery Queue empty, overflow clear, a frame that carried
them stopped after its word in progress (R169); ready answers and link kept. -/
def Port.levelThree (p : Port) : Port :=
  let p1 : Port := { p with notices := [], overflow := false, delivery := [] }
  if p.out.any fun f => f.source != .answer then p1.stopFrame else p1

/-- The level-3 values (R176, log 21). -/
def Controller.levelThreeValues (c : Controller) (sender : Channel) : Controller :=
  let c1 := (c.modPort .a (·.levelThree)).modPort .b (·.levelThree)
  let c2 := ({ c1 with work := .powerOn }).fallbackEntry .reset
  let c3 := (c2.setMedia { c2.media with consecutive := 0, degraded := false }).startWindow
  { c3.offerBoth (.resetDone 3 sender) with level3 := none }

/-- The level-3 flush has ended (R175, R176). -/
def Controller.flushEnds (c : Controller) : Controller :=
  match c.level3 with
  | some sender => if c.flushDone then c.levelThreeValues sender else c
  | none => c

/-- LEVEL_3_VALUES (R176). -/
def execLevel3Values (s : State) : Host.Outcome State Fault Refusal := s.run (·.flushEnds)

end Sys2Proof.Machine
end

