-- ==== Sys2Proof/Machine/TableOrders.lean ====
section
/-! DEFINITION. READ-TABLE, LOAD-TABLE, COPY-ACTIVE, COMMIT and the commit at the quiet point (R37, R80, R142 to
R151). -/

namespace Sys2Proof.Machine

/-! READ-TABLE (R37). -/

def listedEntry (ws : List TWord) : ListedEntry := { words := ws.map (·.value), failed := !wordsGood ws }

/-- The entries of an answer: count of them from the start index, or as many as remain (R19, R37). -/
def TableSet.listed (t : TableSet) (table : TableId) (start count : Nat) : List ListedEntry :=
  (((t.entries table).drop start).take count).map listedEntry

def TableStore.setOf (t : TableStore) : SetId → TableSet
  | .staged => t.staged
  | .active => t.active

/-- The answer to a READ-TABLE: its entries with their marks, and the index of the first failed one (R37). -/
def tableAnswer (o : Order) (start : Nat) (es : List ListedEntry) : Answer :=
  { Answer.plain o.frame.tag o.code .done with
    body := .table es
    index := (es.findIdx? (·.failed)).map (start + ·) }

/-- A READ-TABLE; a failed word of the active set is a table fault once the entries stand in the answer (R37). -/
def Controller.acceptReadTable (c : Controller) (o : Order) : Controller :=
  match o.operands with
  | some (.list table set start count) =>
    let es := (c.tables.setOf set).listed table start count
    let c1 := c.placeAnswer o.channel (tableAnswer o start es)
    if set == .active && es.any (·.failed) then c1.tableFault else c1
  | _ => c

/-- READ_TABLE (R37). -/
def execReadTable (ch : Channel) (f : OrderFrame) (s : State) : Host.Outcome State Fault Refusal :=
  let o := Order.of .readTable ch f
  s.run (·.order o (·.acceptReadTable o))

/-! LOAD-TABLE and COPY-ACTIVE (R142, R144). -/

/-- The entries are range-checked and written one by one; the index of the first that fails stops the writing
(R142). -/
def TableSet.load (t : TableSet) (table : TableId) : Nat → List (List Word) → TableSet × Option Nat
  | _, [] => (t, none)
  | i, ws :: rest =>
    if entryInRange table ws then (t.writeEntry table i ws).load table (i + 1) rest else (t, some i)

def Controller.setStaged (c : Controller) (t : TableSet) : Controller :=
  c.setTables { c.tables with staged := t }

/-- A LOAD-TABLE (R142). -/
def Controller.acceptLoadTable (c : Controller) (o : Order) : Controller :=
  match o.operands with
  | some (.load table start entries) =>
    if c.work.commitPending then c.answerOrder o .stageLocked
    else
      let p := c.tables.staged.load table start entries
      let c1 := c.setStaged p.1
      match p.2 with
      | none => c1.answerOrder o .staged
      | some i => c1.placeAnswer o.channel { Answer.plain o.frame.tag o.code .entryRange with index := some i }
  | _ => c

/-- LOAD_TABLE (R142). -/
def execLoadTable (ch : Channel) (f : OrderFrame) (s : State) : Host.Outcome State Fault Refusal :=
  let o := Order.of .loadTable ch f
  s.run (·.order o (·.acceptLoadTable o))

/-- A COPY-ACTIVE: the copy keeps a failing word's failed parity, and the fault is then taken (R144). -/
def Controller.acceptCopyActive (c : Controller) (o : Order) : Controller :=
  if c.work.commitPending then c.answerOrder o .stageLocked
  else
    let c1 := c.setStaged c.tables.active
    (if c.tables.active.good then c1 else c1.tableFault).answerOrder o .staged

/-- COPY_ACTIVE (R144). -/
def execCopyActive (ch : Channel) (f : OrderFrame) (s : State) : Host.Outcome State Fault Refusal :=
  let o := Order.of .copyActive ch f
  s.run (·.order o (·.acceptCopyActive o))

/-! COMMIT. -/

/-- A COMMIT becomes a COMMIT-WAIT record and sets the COMMIT-pending mark (R30). -/
def Controller.acceptCommit (c : Controller) (o : Order) : Controller :=
  (c.addRecord (c.newRecord o .commit .commitWait)).modWork fun w => { w with commitPending := true }

/-- COMMIT (R28, R30). -/
def execCommit (ch : Channel) (f : OrderFrame) (s : State) : Host.Outcome State Fault Refusal :=
  let o := Order.of .commit ch f
  s.run (·.order o (·.acceptCommit o))

/-! The commit checks (R147 to R149), on the staged set alone. -/

/-- The first index at which a test holds. -/
def firstIndex {α : Type} (p : Nat → α → Bool) (l : List α) : Option Nat :=
  (l.zipIdx.find? fun q => p q.2 q.1).map (·.2)

/-- Check 1: the set position of the first entry with a failing word. -/
def TableSet.damagedAt (t : TableSet) : Option Nat := firstIndex (fun _ ws => !wordsGood ws) t.allEntries

/-- The words of an entry within R143. -/
def wordsInRange (table : TableId) (ws : List TWord) : Bool := entryInRange table (ws.map (·.value))

/-- Check 2 for the extents: first LSA at or below last LSA where valid, and every field within R143. The index is the
table index for either failure, as the table of R147 and note 4 of 8.8 have it; a later sentence of R147 gives a field
outside R143 its set position (DEDUCED, log 48). -/
def TableSet.badExtent (t : TableSet) : Option Nat :=
  firstIndex (fun _ (e : ExtentEntry) =>
    (e.valid && decide (e.lastLsa < e.firstLsa)) || !wordsInRange .extent e.words) t.extents.toList

/-- Check 2 for one other table, as a set position. -/
def TableSet.badEntry (t : TableSet) (table : TableId) (base : Nat) : Option Nat :=
  (firstIndex (fun _ ws => !wordsInRange table ws) (t.entries table)).map (base + ·)

/-- Check 2: the extents in ascending index first, then the other entries in set position. -/
def TableSet.boundsAt (t : TableSet) : Option Nat :=
  t.badExtent <|> t.badEntry .channel 0 <|> t.badEntry .remap 18 <|> t.badEntry .drive 50 <|> t.badEntry .monitor 51

/-- Two valid extents share an LSA (R148). -/
def extentsOverlap (e o : ExtentEntry) : Bool :=
  e.valid && o.valid && decide (e.firstLsa ≤ o.lastLsa) && decide (o.firstLsa ≤ e.lastLsa)

/-- Check 3 (R148): the higher-numbered of the first overlapping pair. -/
def TableSet.overlapAt (t : TableSet) : Option Nat :=
  let es := t.extents.toList
  firstIndex (fun i e => (es.take i).any (extentsOverlap e)) es

/-- A used position out of order after the position before it (R149). -/
def remapOutOfOrder (e : RemapEntry) (before : Option RemapEntry) : Bool :=
  e.used && before.any fun p => !p.used || decide (e.lsa ≤ p.lsa)

/-- Check 4 (R149). -/
def TableSet.remapOrderAt (t : TableSet) : Option Nat :=
  let es := t.remap.toList
  firstIndex (fun i e => remapOutOfOrder e (es.take i).getLast?) es

/-- Check 5 (R149). -/
def TableSet.spareReusedAt (t : TableSet) : Option Nat :=
  let es := t.remap.toList
  firstIndex (fun i (e : RemapEntry) => e.used && (es.take i).any fun o => o.used && o.spare == e.spare) es

/-- The checks of a commit in their order: the reason and entry index of the first that fails (R147). -/
def TableSet.commitFailure (t : TableSet) : Option (CommitReason × Option Nat) :=
  match t.damagedAt with
  | some i => some (.stageDamaged, some i)
  | none =>
    match t.boundsAt with
    | some i => some (.bounds, some i)
    | none =>
      match t.overlapAt with
      | some i => some (.overlap, some i)
      | none =>
        match t.remapOrderAt with
        | some i => some (.remapOrder, some i)
        | none =>
          match t.spareReusedAt with
          | some i => some (.spareReused, some i)
          | none =>
            if t.channels.a.management || t.channels.b.management then none else some (.noManager, none)

/-! The effect of a commit (R80, R150). -/

/-- A claim survives where the staged entry of its number is valid, EXCLUSIVE, and covers the same LSAs as the active
entry; a failing word of the active entry drops it (R80). -/
def claimSurvives (active staged : ExtentEntry) : Bool :=
  staged.claimable && active.w1.good && active.w2.good && active.firstLsa == staged.firstLsa
    && active.lastLsa == staged.lastLsa

/-- The claim of an extent number is compared, and dropped where it does not survive (R80, R150 step 1). -/
def Controller.compareClaim (c : Controller) (n : Nat) : Controller :=
  match c.tables.active.extent? n, c.tables.staged.extent? n with
  | some a, some st => if claimSurvives a st then c else c.dropClaim Controller.offer n
  | _, _ => c

/-- The claim state of an entry after the commit: a surviving one, a new one in FREE, or none (R80, R150 step 4). -/
def claimAfterCommit (e : ExtentEntry) (cl : Option Claim) : Option Claim :=
  if e.claimable then some (cl.getD .free) else none

/-- The claim states of the new active set (R150 step 4). -/
def Controller.makeClaims (c : Controller) : Controller :=
  { c with claims := c.tables.active.extents.zipWith claimAfterCommit c.claims }

/-- A commit that passes every check, less its answer (R150 steps 1 to 5). -/
def Controller.commitTables (c : Controller) : Controller :=
  let c1 := (List.range 16).foldl (·.compareClaim ·) c
  let c2 := c1.setTables
    { c1.tables with active := c1.tables.staged, mode := .normal, remapUnconfirmed := false }
  c2.makeClaims.offerBoth .tablesCommitted

/-- The commit engine's work for a COMMIT-WAIT record (R147, R150, R151). -/
def Controller.commit (c : Controller) (r : Record) : Controller :=
  match c.tables.staged.commitFailure with
  | some (reason, index) =>
    c.leave r.seq (some { r.answer .commitFailed with reason := some reason, index := index })
  | none => c.commitTables.leave r.seq (some (r.answer .committed))

/-- The quiet point (R55): a COMMIT-WAIT record is present and no record is ACTIVE. -/
def Controller.quietPoint (c : Controller) : Controller :=
  if c.anyIn .active then c
  else match c.records.find? (·.state == .commitWait) with
    | none => c
    | some r => c.commit r

/-- COMMIT_QUIET_POINT (R55, R147, R150, R151). -/
def execCommitQuietPoint (s : State) : Host.Outcome State Fault Refusal := s.run (·.quietPoint)

end Sys2Proof.Machine
end

