-- ==== Sys2Proof/Machine/Dispatch.lean ====
section
/-! DEFINITION. The dispatch of a command to its meaning: one arm for each row of spec/opcode_table.json. -/

namespace Sys2Proof.Machine

/-- A command's effect on everything but the queue. -/
def exec (i : Instr) (s : State) : Host.Outcome State Fault Refusal :=
  match i with
  | .powerOn cart sup wf => Sys2Proof.Machine.execPowerOn cart sup wf s
  | .linkPresentRises c => Sys2Proof.Machine.execLinkPresentRises c s
  | .linkPresentFalls c => Sys2Proof.Machine.execLinkPresentFalls c s
  | .frameDiscarded c cause => Sys2Proof.Machine.execFrameDiscarded c cause s
  | .resetLevel1 c => Sys2Proof.Machine.execResetLevel1 c s
  | .resetLevel2 c => Sys2Proof.Machine.execResetLevel2 c s
  | .resetLevel3 c => Sys2Proof.Machine.execResetLevel3 c s
  | .level3Values => Sys2Proof.Machine.execLevel3Values s
  | .escalationTimerExpiry c => Sys2Proof.Machine.execEscalationTimerExpiry c s
  | .undefinedFunction c code f => Sys2Proof.Machine.execUndefinedFunction c code f s
  | .null c f => Sys2Proof.Machine.execNull c f s
  | .read c f => Sys2Proof.Machine.execRead c f s
  | .write c f => Sys2Proof.Machine.execWrite c f s
  | .verify c f => Sys2Proof.Machine.execVerify c f s
  | .formatTrack c f => Sys2Proof.Machine.execFormatTrack c f s
  | .seek c f => Sys2Proof.Machine.execSeek c f s
  | .sync c f => Sys2Proof.Machine.execSync c f s
  | .claim c f => Sys2Proof.Machine.execClaim c f s
  | .yield c f => Sys2Proof.Machine.execYield c f s
  | .keep c f => Sys2Proof.Machine.execKeep c f s
  | .release c f => Sys2Proof.Machine.execRelease c f s
  | .status c f => Sys2Proof.Machine.execStatus c f s
  | .readSuspect c f => Sys2Proof.Machine.execReadSuspect c f s
  | .readTable c f => Sys2Proof.Machine.execReadTable c f s
  | .loadTable c f => Sys2Proof.Machine.execLoadTable c f s
  | .copyActive c f => Sys2Proof.Machine.execCopyActive c f s
  | .commit c f => Sys2Proof.Machine.execCommit c f s
  | .setDriveTarget c f => Sys2Proof.Machine.execSetDriveTarget c f s
  | .clearDeferred c f => Sys2Proof.Machine.execClearDeferred c f s
  | .clearSuspect c f => Sys2Proof.Machine.execClearSuspect c f s
  | .clearMonitor c f => Sys2Proof.Machine.execClearMonitor c f s
  | .outboundWordTaken c => Sys2Proof.Machine.execOutboundWordTaken c s
  | .stallLimit c => Sys2Proof.Machine.execStallLimit c s
  | .arbiterChoice => Sys2Proof.Machine.execArbiterChoice s
  | .commitQuietPoint => Sys2Proof.Machine.execCommitQuietPoint s
  | .syncCompletion c => Sys2Proof.Machine.execSyncCompletion c s
  | .drainEnd extent => Sys2Proof.Machine.execDrainEnd extent s
  | .yieldTimerExpiry extent => Sys2Proof.Machine.execYieldTimerExpiry extent s
  | .targetOffFlushDone => Sys2Proof.Machine.execTargetOffFlushDone s
  | .seekComplete => Sys2Proof.Machine.execSeekComplete s
  | .seekTimeout => Sys2Proof.Machine.execSeekTimeout s
  | .recalibrationTimeout => Sys2Proof.Machine.execRecalibrationTimeout s
  | .loadingRecalTimeout => Sys2Proof.Machine.execLoadingRecalTimeout s
  | .indexPulse period lock => Sys2Proof.Machine.execIndexPulse period lock s
  | .missingPulse => Sys2Proof.Machine.execMissingPulse s
  | .headerRead cyl hd sec check => Sys2Proof.Machine.execHeaderRead cyl hd sec check s
  | .dataFieldRead words check => Sys2Proof.Machine.execDataFieldRead words check s
  | .dataFieldWritten => Sys2Proof.Machine.execDataFieldWritten s
  | .verifyRereadDone words check => Sys2Proof.Machine.execVerifyRereadDone words check s
  | .formatSlotWritten => Sys2Proof.Machine.execFormatSlotWritten s
  | .writeFault => Sys2Proof.Machine.execWriteFault s
  | .faultClearWaitExpiry raised => Sys2Proof.Machine.execFaultClearWaitExpiry raised s
  | .supplyLow => Sys2Proof.Machine.execSupplyLow s
  | .supplyReturn => Sys2Proof.Machine.execSupplyReturn s
  | .cartridgeInserted => Sys2Proof.Machine.execCartridgeInserted s
  | .cartridgeRemoved => Sys2Proof.Machine.execCartridgeRemoved s
  | .spindleAtRest => Sys2Proof.Machine.execSpindleAtRest s
  | .coolDownExpiry => Sys2Proof.Machine.execCoolDownExpiry s
  | .spinUpLimitExpiry => Sys2Proof.Machine.execSpinUpLimitExpiry s
  | .headLoadExpiry => Sys2Proof.Machine.execHeadLoadExpiry s
  | .unloadComplete => Sys2Proof.Machine.execUnloadComplete s
  | .idleExpiry => Sys2Proof.Machine.execIdleExpiry s
  | .readyWaitExpiry => Sys2Proof.Machine.execReadyWaitExpiry s

end Sys2Proof.Machine
end

