-- ==== Sys2Proof/Safety.lean ====
section
/-! DEFINITION. What the statements speak of: what the end of a step may touch, the state a command gives, and the
conditions that every step keeps. -/

namespace Sys2Proof.Machine

/-! The end of a step. -/

/-- A port less what its outbound arbiter does by itself: the frame in progress and the stall timer (R169). -/
def Port.still (p : Port) : Port := { p with out := none, stall := none }

/-- The Drive Sequencer less what it watches by itself: the ready-wait and idle timers and a fault clearing (R127,
R130, R132). -/
def Sequencer.still (d : Sequencer) : Sequencer :=
  { d with readyWait := none, idle := none, clearing := false, clearCount := 0 }

/-- Two states of the block that differ at most in what the end of a step touches: frames in progress, the ready-wait
and idle timers, a fault clearing, and the fault-clear command it sends. -/
structure Controller.SameUpToEnd (c d : Controller) : Prop where
  portA   : d.ports.a.still = c.ports.a.still
  portB   : d.ports.b.still = c.ports.b.still
  work    : d.work = c.work
  buffers : d.buffers = c.buffers
  claims  : d.claims = c.claims
  tables  : d.tables = c.tables
  engine  : d.engine = c.engine
  drive   : d.drive.still = c.drive.still
  media   : d.media = c.media
  level3  : d.level3 = c.level3
  sent    : d.driveOut = c.driveOut ∨ d.driveOut = c.driveOut ++ [.faultClear]

/-- The two Drive Record words that the end of a step may read have good parity: ready wait, and idle unload. -/
def Controller.timersReadable (c : Controller) : Bool :=
  c.tables.active.drive.w2.good && c.tables.active.drive.w3.good

/-- The word of a channel's notice enable set has good parity. -/
def Controller.noticesReadable (c : Controller) (ch : Channel) : Bool := (c.channelRecord ch).w2.good

/-- The command, run on the state, answers a next state with the same queue whose block is `c` up to the end of the
step. -/
def Gives (i : Instr) (s : State) (c : Controller) : Prop :=
  ∃ t, exec i s = .next t ∧ t.pending = s.pending ∧ Controller.SameUpToEnd c t.ctl

/-- The command answers a next state with the same queue whose block has the property. -/
def Answers (i : Instr) (s : State) (p : Controller → Prop) : Prop :=
  ∃ t, exec i s = .next t ∧ t.pending = s.pending ∧ p t.ctl

/-! Conditions on the state that the statements name. -/

/-- The link of a channel is up (R166). -/
def Controller.linkUp (c : Controller) (ch : Channel) : Bool := (c.port ch).link != .detached

/-- An order of the channel with the tag passes checks 1 and 5 whatever its function: no level-3 reset is in progress,
the link is ATTACHED, and no live record of the channel has the tag (R21, R24). -/
def Controller.orderReady (c : Controller) (ch : Channel) (tag : BitVec 8) : Bool :=
  c.level3.isNone && (c.port ch).link == .attached && !c.tagLive ch tag

/-- An order of the channel is received and passes every check that applies to it (R20). -/
def Controller.passes (c : Controller) (o : Order) : Bool := c.linkUp o.channel && (c.runChecks o).isNone

/-- A record as an order makes it, before class, extent and buffers (R30, R38, R39): sectors done 0, bypass count 0, no
error, no mark, and the next acceptance sequence number. -/
def Controller.recordFor (c : Controller) (ch : Channel) (f : OrderFrame) (job : Job) (state : RecState) : Record :=
  { channel := ch, tag := f.tag, job := job, cls := none, extent := none, buffers := [], state := state, bypass := 0
    seq := c.work.nextSeq, early := false, done := 0, firstError := none, silent := false, prepared := none
    sent := 0 }

/-- An answer of an order: its tag, its function code, an answer code, and nothing more (R31). -/
def answerTo (f : OrderFrame) (fn : Func) (code : AnswerCode) : Answer :=
  .plain f.tag (BitVec.ofNat 6 fn.code) code

/-- The extents among these that a channel holds (R67). -/
def Controller.heldBy (c : Controller) (ch : Channel) (extents : List Nat) : List Nat :=
  extents.filter fun n => (c.claimAt n).bind (·.holder) == some ch

/-- The CLAIM-WAIT records of the waiters on these extents, in their order (R67, R69). -/
def Controller.waitersOn (c : Controller) (extents : List Nat) : List Record :=
  extents.filterMap fun n => ((c.claimAt n).bind (·.waiter)).bind fun w =>
    c.records.find? fun r => r.state == .claimWait && r.channel == w && r.extent == some n

/-- A record chosen by the arbiter is dispatched (R43, R51, R54): it becomes ACTIVE with the extent found, a READ with
its lowest free buffers; every other eligible record's bypass count rises by one, stopping at 15; the sweep is as the
choice leaves it; the Engine begins its work. -/
def Controller.dispatched (c : Controller) (r : Record) (eligible : List Record) (sweep : Direction)
    (extent : Option Nat) (verify : Bool) : Controller :=
  ((c.setRecords (c.records.map fun o =>
    if o.seq = r.seq then
      { o with
        state := .active
        extent := extent
        buffers := match r.job with
          | .read _ n => c.freeBuffers.take n
          | _ => r.buffers }
    else if ∃ e ∈ eligible, e.seq = o.seq then { o with bypass := min (o.bypass + 1) 15 } else o)).modWork
      fun w => { w with sweep := sweep }).startWork r verify

/-- The command a drive receives writes on the pack. -/
def DriveCmd.writes : DriveCmd → Bool
  | .writeField _ _ _ => true
  | .writeSlot _ _ _ _ _ => true
  | _ => false

/-! Conditions that every step keeps. -/

/-- A Notice Queue never holds more than 8 entries nor two equal ones (R171). -/
def Port.noticesSound (p : Port) : Prop := p.notices.length ≤ 8 ∧ p.notices.Nodup

def Controller.noticesSound (c : Controller) : Prop := c.ports.a.noticesSound ∧ c.ports.b.noticesSound

/-- The Suspect List never holds more than 8 entries nor two with the same LSA (R162). -/
def Controller.suspectsSound (c : Controller) : Prop :=
  c.media.suspects.length ≤ 8 ∧ (c.media.suspects.map (·.lsa)).Nodup

/-- The pack interlock is locked in every state except STOPPED and COOLING (R135). -/
def Controller.interlockSound (c : Controller) : Prop :=
  c.drive.interlockLocked = !(c.drive.state == .stopped || c.drive.state == .cooling)

/-- remap-unconfirmed is set only in FALLBACK, and while it is set every active Remap Table position is unused
(R13). -/
def Controller.unconfirmedSound (c : Controller) : Prop :=
  c.tables.remapUnconfirmed = true →
    c.inFallback = true ∧ ∀ e ∈ c.tables.active.remap.toList, e.used = false

/-- The Work List never holds more than 16 records (R38). -/
def Controller.listSound (c : Controller) : Prop := c.records.length ≤ 16

/-- The records stand in the order of their acceptance sequence numbers, each below the next number to be given
(R39). -/
def Controller.sequenceSound (c : Controller) : Prop :=
  (c.records.map (·.seq)).Pairwise (· < ·) ∧ ∀ r ∈ c.records, r.seq < c.work.nextSeq

/-- At most one record is ACTIVE (R54). -/
def Controller.oneActive (c : Controller) : Prop := (c.records.filter (·.state == .active)).length ≤ 1

/-- Every held buffer is one of the twelve and is held by one record (R43). -/
def Controller.buffersSound (c : Controller) : Prop := c.heldBuffers.Nodup ∧ ∀ i ∈ c.heldBuffers, i < 12

/-- A claim state exists for each valid EXCLUSIVE entry of the active Extent Table, and none for any other entry (R67). -/
def Controller.claimsSound (c : Controller) : Prop :=
  ∀ n e, c.tables.active.extents[n]? = some e → (c.claimAt n).isSome = e.claimable

/-- The Engine is at work on the ACTIVE record, and only while there is one (R54, R85). -/
def Controller.engineSound (c : Controller) : Prop :=
  match c.engine.work with
  | none => ∀ r ∈ c.records, r.state ≠ .active
  | some w => (∃ r ∈ c.records, r.seq = w.seq) ∧ ∀ r ∈ c.records, r.state = .active ↔ r.seq = w.seq

/-- The Delivery Queue of a channel holds exactly its DELIVERING records (R56, R57). -/
def Controller.deliverySound (c : Controller) : Prop :=
  ∀ ch n, n ∈ (c.port ch).delivery ↔ ∃ r ∈ c.records, r.seq = n ∧ r.state = .delivering ∧ r.channel = ch

/-- The COMMIT-pending mark is set exactly while a COMMIT-WAIT record is present (R30, R42), of which there is at most
one (R28). -/
def Controller.commitSound (c : Controller) : Prop :=
  c.work.commitPending = c.anyIn .commitWait ∧ (c.records.filter (·.state == .commitWait)).length ≤ 1

/-- Every step keeps the condition. -/
def Kept (p : Controller → Prop) : Prop := ∀ s t : State, p s.ctl → step s = .next t → p t.ctl

end Sys2Proof.Machine
end

