-- ==== Sys2Proof/Certificates/Slice0/Obligations.lean ====
section
/-! DEFINITION. The statements for the provers: what each command does to the block, and what every step keeps. -/

section

open Sys2Proof Sys2Proof.Machine

/-! The queue, power-on, the end of a step. -/

/-- The command at the front of the queue is executed on the queue's rest; with no command waiting a step changes nothing
(the model's choices, logs 1 and 3). -/
def Obligations.QueueRunsFrontCommand : Prop :=
  (∀ (i : Instr) (s : State), step { s with pending := i :: s.pending } = exec i s) ∧
  ∀ s : State, s.pending = [] → step s = .next s

/-- POWER_ON in any state gives every block its power-on values (R60, R85, R108, R119, R138, R154, R157, R166, R180). The
Notice Queues hold the FALLBACK(POWER-ON) of R180, where the table of R166 has them empty (log 38). -/
def Obligations.PowerOnGivesPowerOnValues : Prop :=
  ∀ (cartridge supply writeFault : Bool) (s : State), ∃ c : Controller,
    Gives (.powerOn cartridge supply writeFault) s c ∧
    (∀ ch, (c.port ch).link = .detached ∧ (c.port ch).escalation = none ∧ (c.port ch).errorCount = 0
      ∧ (c.port ch).notices = [.fallback .powerOn] ∧ (c.port ch).overflow = false ∧ (c.port ch).delivery = []
      ∧ (c.port ch).ready = []) ∧
    c.records = [] ∧ c.work.nextSeq = 0 ∧ c.work.sweep = .upward ∧ c.work.commitPending = false ∧
    (∀ ch, c.work.deferred.get ch = none) ∧ c.freeBuffers = List.range 12 ∧ (∀ e, c.claimAt e = none) ∧
    c.tables.mode = .fallback .powerOn ∧ c.tables.remapUnconfirmed = true ∧ c.tables.staged = c.tables.active ∧
    (∀ ch, (c.channelRecord ch).management = true ∧ (c.channelRecord ch).slotQuota = 8
      ∧ (c.channelRecord ch).bufferQuota = 6 ∧ (c.channelRecord ch).maxSectors = 8
      ∧ (c.channelRecord ch).ceiling = .urgent ∧ (c.channelRecord ch).writeBehindPermitted = false
      ∧ ∀ n : Notice, (c.channelRecord ch).enables n.kind = true) ∧
    (∃ e, c.tables.active.extents[0]? = some e ∧ e.valid = true ∧ e.firstLsa = 0 ∧ e.lastLsa = 19199
      ∧ e.exclusive = false ∧ e.writeBehind = false ∧ e.verifyAfterWrite = false ∧ e.yieldLimit = 0
      ∧ ∀ ch, e.hasRight ch .read = true ∧ e.hasRight ch .write = false ∧ e.hasRight ch .format = false) ∧
    (∀ n e, 0 < n → c.tables.active.extents[n]? = some e → e.valid = false) ∧
    (∀ e ∈ c.tables.active.remap.toList, e.used = false) ∧
    c.tables.active.drive.spinUp = 600 ∧ c.tables.active.drive.headLoad = 15 ∧ c.tables.active.drive.coolDown = 200 ∧
    c.tables.active.drive.readyWait = 100 ∧ c.tables.active.drive.idleUnload = 0 ∧
    c.tables.active.drive.retryLimit = 8 ∧ c.tables.active.drive.bypassLimit = 6 ∧
    c.tables.active.monitor.threshold = 4 ∧ c.tables.active.monitor.tripWindows = 3 ∧
    c.engine.cylinder = 0 ∧ c.engine.recalPending = false ∧ c.engine.work = none ∧
    c.drive.state = .cooling ∧ c.drive.targetOn = false ∧ c.drive.cartridgePresent = cartridge ∧
    c.drive.supplyGood = supply ∧ c.drive.atRest = true ∧ c.drive.interlockLocked = false ∧
    c.drive.coolDown = some 20000 ∧ c.drive.spinUp = none ∧ c.drive.headLoad = none ∧ c.drive.inTolerance = 0 ∧
    c.drive.outOfTolerance = 0 ∧
    c.media.counted = 0 ∧ c.media.retried = 0 ∧ c.media.threshold = 4 ∧ c.media.tripWindows = 3 ∧
    c.media.consecutive = 0 ∧ c.media.degraded = false ∧ c.media.suspects = [] ∧ c.media.suspectOverflow = false ∧
    c.level3 = none

/-- The state after reset is the one that POWER_ON gives with a cartridge present, the supply good and the write-fault
line down (the model's choice, log 5), up to the end of that step; its queue is empty; and it meets every
condition that the steps keep. -/
def Obligations.ResetStateIsPowerOn : Prop :=
  State.reset.pending = [] ∧ (∀ s : State, Gives (.powerOn true true false) s State.reset.ctl) ∧
  State.reset.ctl.noticesSound ∧ State.reset.ctl.suspectsSound ∧ State.reset.ctl.interlockSound ∧
  State.reset.ctl.unconfirmedSound ∧ State.reset.ctl.listSound ∧ State.reset.ctl.sequenceSound ∧
  State.reset.ctl.oneActive ∧ State.reset.ctl.buffersSound ∧ State.reset.ctl.claimsSound ∧
  State.reset.ctl.engineSound ∧ State.reset.ctl.deliverySound ∧ State.reset.ctl.commitSound

/-- What holds at the end of every step whose Drive Record words can be read: the ready-wait timer runs exactly while
its three conditions hold (R132), the idle timer exactly while its conditions hold (R127), a raised write-fault
line has been found in READY with no ACTIVE record (R130), and a port with nothing under way and its link up has
nothing to send (R169). The moments are the model's, logs 16 and 17.
The two timers as they start: the ready wait and the idle unload are read from the active Drive Record. A word that
fails is a table fault; the ready-wait timer then takes its default of 10 s, and the idle timer, whose default is 0,
stays stopped (R136). The idle word is met once, as the conditions come to hold (log 15). -/
def Obligations.EndOfStepFollowsItsConditions : Prop :=
  (∀ (i : Instr) (s t : State), exec i s = .next t → t.ctl.timersReadable = true →
    t.ctl.drive.readyWait.isSome = t.ctl.readyWaitDue ∧
    t.ctl.drive.idle.isSome = (t.ctl.idleDue && decide (0 < t.ctl.tables.active.drive.idleUnload)) ∧
    (t.ctl.drive.state = .ready → t.ctl.drive.writeFaultLine = true → t.ctl.anyIn .active = false →
      t.ctl.drive.clearing = true) ∧
    ∀ ch, (t.ctl.port ch).link ≠ .detached → (t.ctl.port ch).out = none → t.ctl.nextFrame (t.ctl.port ch) = none) ∧
  ∀ (c : Controller) (was : Bool), let record := c.tables.active.drive
    (c.readyWaitDue = true → c.drive.readyWait = none →
      (record.w2.good = true →
        c.settleReadyWait = c.modDrive fun d => { d with readyWait := some (record.readyWait * 100) }) ∧
      (record.w2.good = false →
        c.settleReadyWait = c.tableFault.modDrive fun d => { d with readyWait := some 10000 })) ∧
    (c.idleDue = true → c.drive.idle = none →
      (record.w3.good = true → 0 < record.idleUnload →
        c.settleIdle was = c.modDrive fun d => { d with idle := some (record.idleUnload * 60000) }) ∧
      (record.w3.good = true → record.idleUnload = 0 → c.settleIdle was = c) ∧
      (record.w3.good = false → was = false → c.settleIdle was = c.tableFault) ∧
      (record.w3.good = false → was = true → c.settleIdle was = c))

/-- A port with its link up and no frame in progress begins the next frame by the preference of R169: the head
record's data frame, then its answer; otherwise the oldest ready answer; otherwise the oldest notice. The stall
timer runs with a frame of a delivery only (R170). A frame in progress is not disturbed, and a port whose link is
down sends nothing. The words of the three frames, of a status block and of the entries of a list, field by field,
with the numbers of named values (R177, R178). Bits that no field takes are left open (log 7). An absent fallback
reason and an absent channel are 0 (log 9); a deferred record is four words, its kind numbered 1 to 12 (log 44). -/
def Obligations.OutboundFramesFollowThePreference : Prop :=
  (∀ (c : Controller) (ch : Channel),
    ((c.port ch).link = .detached ∨ (c.port ch).out.isSome = true → (c.pump.port ch) = c.port ch) ∧
    ((c.port ch).link ≠ .detached → (c.port ch).out = none →
      (∀ r, (c.port ch).delivery.head?.bind c.findRecord = some r →
        (c.pump.port ch).stall = some 2000 ∧
        (∀ b rest, r.buffers = b :: rest → (c.pump.port ch).out =
          some { source := .data, words := dataFrame r.tag r.sent (r.job.start + r.sent) (c.bufferWords b) }) ∧
        (∀ a, r.buffers = [] → r.prepared = some a →
          (c.pump.port ch).out = some { source := .deliveryAnswer, words := answerFrame a })) ∧
      ((c.port ch).delivery.head?.bind c.findRecord = none →
        (c.pump.port ch).stall = none ∧
        (∀ a rest, (c.port ch).ready = a :: rest →
          (c.pump.port ch).out = some { source := .answer, words := answerFrame a }) ∧
        (∀ n rest, (c.port ch).ready = [] → (c.port ch).notices = n :: rest →
          (c.pump.port ch).out = some { source := .notice, words := noticeFrame n }) ∧
        ((c.port ch).ready = [] → (c.port ch).notices = [] → (c.pump.port ch).out = none)))) ∧
  let holds (fields : List (Word × Nat × Nat × Nat)) : Prop :=
    (∀ w hi lo v, (w, hi, lo, v) ∈ fields → v < 2 ^ (hi + 1 - lo)) →
      ∀ w hi lo v, (w, hi, lo, v) ∈ fields → field w hi lo = v
  (∀ n : Notice, ∃ payload, noticeFrame n = [49155, BitVec.ofNat 16 n.kind, payload] ∧ match n with
    | .claimWanted e => n.kind = 1 ∧ payload = BitVec.ofNat 16 e
    | .claimLost e => n.kind = 2 ∧ payload = BitVec.ofNat 16 e
    | .tablesCommitted => n.kind = 3 ∧ payload = 0
    | .driveState state => n.kind = 4 ∧ holds [(payload, 3, 0, state.value), (payload, 5, 4, state.faultValue)]
    | .mediaDegrading => n.kind = 5 ∧ payload = 0
    | .fallback reason => n.kind = 6 ∧ payload = BitVec.ofNat 16 reason.value
    | .deferredError tag => n.kind = 7 ∧ payload = BitVec.ofNat 16 tag.toNat
    | .resetDone level sender => n.kind = 8 ∧ holds [(payload, 15, 8, level), (payload, 0, 0, channelValue sender)]
    | .linkAttached sender => n.kind = 9 ∧ payload = BitVec.ofNat 16 (channelValue sender)
    | .suspectAdded lsa => n.kind = 10 ∧ payload = BitVec.ofNat 16 lsa) ∧
  (∀ (tag : BitVec 8) (position lsa : Nat) (data : List Word), ∃ w1,
    dataFrame tag position lsa data = 41219 :: w1 :: BitVec.ofNat 16 lsa :: data ∧
    holds [(w1, 15, 8, tag.toNat), (w1, 2, 0, position)]) ∧
  (∀ a : Answer, ∃ w1 w2 w3,
    let rest := (a.lsa.map (BitVec.ofNat 16)).toList ++ (a.index.map (BitVec.ofNat 16)).toList ++
      ((a.deferred.map fun d => [BitVec.ofNat 16 d.tag.toNat, BitVec.ofNat 16 d.lsa, BitVec.ofNat 16 d.kind.value,
        BitVec.ofNat 16 d.further]).getD []) ++ a.body.words
    answerFrame a = BitVec.ofNat 16 (32768 + rest.length + 4) :: w1 :: w2 :: w3 :: rest ∧
    holds [(w1, 15, 8, a.tag.toNat), (w1, 7, 0, a.func.toNat),
      (w2, 15, 10, a.code.value), (w2, 9, 6, a.done), (w2, 5, 5, flag a.soft), (w2, 4, 4, flag a.unconfirmed),
      (w2, 3, 3, flag a.early),
      (w3, 15, 12, (a.kind.map (·.value)).getD 0), (w3, 11, 8, (a.reason.map (·.value)).getD 0),
      (w3, 7, 7, flag a.lsa.isSome), (w3, 6, 6, flag a.index.isSome), (w3, 5, 5, flag a.deferred.isSome)]) ∧
  AnswerBody.none.words = [] ∧
  (∀ es : List ListedEntry, ∃ mark,
    (AnswerBody.table es).words = BitVec.ofNat 16 es.length :: mark :: es.flatMap (·.words) ∧
    (es.length ≤ 16 → ∀ i, i < 16 → bit mark i = (es[i]?.any (·.failed)))) ∧
  (∀ es : List Suspect, ∃ second : Suspect → Word,
    (AnswerBody.suspects es).words = BitVec.ofNat 16 es.length :: 0 ::
      es.flatMap (fun e => [BitVec.ofNat 16 e.lsa, second e]) ∧
    ∀ e, holds [(second e, 15, 12, e.kind.value), (second e, 11, 8, e.count), (second e, 0, 0, channelValue e.channel)]) ∧
  (∀ b : StatusBlock, ∃ s0 s1 s3 s4 s5, ∃ entry : ClaimEntry → Word,
    (AnswerBody.status b).words = [s0, s1, BitVec.ofNat 16 b.cylinder, s3, s4, s5, BitVec.ofNat 16 b.claims.length] ++
      b.claims.map entry ∧
    holds [(s0, 15, 15, channelValue b.channel), (s0, 14, 13, b.linkA.value), (s0, 12, 11, b.linkB.value),
      (s0, 10, 10, flag b.management), (s0, 9, 9, flag b.overflow), (s0, 8, 8, flag b.mode.isFallback),
      (s0, 7, 5, b.mode.reasonValue), (s0, 4, 4, flag b.unconfirmed), (s0, 3, 3, flag b.commitPending),
      (s0, 2, 2, flag b.cartridge), (s0, 1, 1, flag b.targetOn), (s0, 0, 0, flag b.targetPending)] ∧
    holds [(s1, 15, 8, b.errorCount), (s1, 7, 4, b.state.value), (s1, 3, 2, b.state.faultValue),
      (s1, 1, 1, flag b.degraded), (s1, 0, 0, flag b.suspectOverflow)] ∧
    holds [(s3, 15, 11, b.records), (s3, 10, 6, b.ownRecords), (s3, 5, 1, b.ownLingering),
      (s3, 0, 0, flag b.deferredSet)] ∧
    holds [(s4, 15, 12, b.freeBuffers), (s4, 11, 8, b.ownBuffers), (s4, 7, 4, b.suspects), (s4, 3, 0, b.consecutive)] ∧
    holds [(s5, 15, 10, b.counted), (s5, 9, 4, b.retried)] ∧
    ∀ e, holds [(entry e, 15, 12, e.extent), (entry e, 11, 10, e.state.value), (entry e, 9, 9, flag e.holder.isSome),
      (entry e, 8, 8, (e.holder.map channelValue).getD 0), (entry e, 7, 7, flag e.waiter.isSome),
      (entry e, 6, 6, (e.waiter.map channelValue).getD 0)]) ∧
  flag true = 1 ∧ flag false = 0 ∧ [Channel.a, .b].map channelValue = [0, 1] ∧
  [LinkState.detached, .attached, .recovering].map (·.value) = List.range 3 ∧
  [SeqState.cooling, .stopped, .spinningUp, .loadingHeads, .ready, .unloading, .parked, .spinningDown].map
    (fun s => (s.value, s.faultValue)) = (List.range 8).map (·, 0) ∧
  [DriveFault.spinUp, .recal, .writeFault].map (fun f => ((SeqState.faulted f).value, (SeqState.faulted f).faultValue)) =
    [(8, 1), (8, 2), (8, 3)] ∧
  Mode.normal.reasonValue = 0 ∧ Mode.normal.isFallback = false ∧
  [FallbackReason.powerOn, .reset, .tableFault, .packChanged].map (fun r =>
    (r.value, (Mode.fallback r).reasonValue, (Mode.fallback r).isFallback)) =
    [(1, 1, true), (2, 2, true), (3, 3, true), (4, 4, true)] ∧
  [ClaimName.free, .held, .wanted, .handingOver].map (·.value) = List.range 4 ∧
  [SuspectKind.soft, .dataCheck, .header, .writeVerify, .torn].map (·.value) = List.range 5 ∧
  [CommitReason.stageDamaged, .bounds, .overlap, .remapOrder, .spareReused, .noManager].map (·.value) =
    [1, 2, 3, 4, 5, 6] ∧
  [ErrorKind.dataCheck, .header, .seek, .writeFault, .writeVerify, .torn, .speed, .supply, .notReady, .revoked,
    .tableFault, .stalled].map (·.value) = [1, 2, 3, 4, 5, 6, 7, 8, 9, 10, 11, 12] ∧
  [AnswerCode.done, .short, .refusedFunction, .refusedRange, .refusedClass, .refusedTag, .refusedExtent, .refusedRights,
    .refusedClaim, .refusedDriveOff, .refusedListFull, .refusedBuffers, .refusedResetting, .revoked, .claimLost,
    .notReady, .driveFault, .aborted, .reset, .granted, .kept, .cancelled, .alreadyHeld, .claimPending, .notExclusive,
    .tooLate, .notHolder, .staged, .entryRange, .stageLocked, .committed, .commitFailed, .commitPending].map (·.value) =
    List.range 33

/-- A notice offered to a port is judged in the order of R171: outside the enable set, already queued, queue full,
otherwise added at the tail; where the enable-set word fails parity a table fault comes first and the notice is judged
under the fallback enable set, which holds every kind. -/
def Obligations.NoticeIsJudgedInOrder : Prop :=
  (∀ (p : Port) (n : Notice),
    p.takeNotice false n = p ∧
    (n ∈ p.notices → p.takeNotice true n = p) ∧
    (n ∉ p.notices → 8 ≤ p.notices.length → p.takeNotice true n = { p with overflow := true }) ∧
    (n ∉ p.notices → p.notices.length < 8 → p.takeNotice true n = { p with notices := p.notices ++ [n] })) ∧
  ∀ (c : Controller) (ch : Channel) (n : Notice),
    (c.noticesReadable ch = true →
      c.offer ch n = c.modPort ch (·.takeNotice ((c.channelRecord ch).enables n.kind) n)) ∧
    (c.noticesReadable ch = false → c.offer ch n = c.tableFault.modPort ch (·.takeNotice true n))

/-! The acceptance checks. -/

/-- An order that fails a check is answered with that check's code and changes nothing else (R20); so an order whose
function code is undefined is answered REFUSED-FUNCTION, with its code as received, outside a level-3 reset (R21,
R31). REFUSED-RESETTING is the answer to every order during a level-3 reset, and to the eight functions that would
make records while the channel's link is RECOVERING, and to no other order (R21, R168). -/
def Obligations.RefusedOrderChangesNothing : Prop :=
  (∀ (i : Instr) (o : Order) (s : State) (code : AnswerCode), i.order? = some o → s.ctl.linkUp o.channel = true →
    s.ctl.timersReadable = true → s.ctl.runChecks o = some (.refuse code) →
    Gives i s ((s.ctl.frameTaken o.channel).placeAnswer o.channel (.plain o.frame.tag o.code code))) ∧
  (∀ (ch : Channel) (code : BitVec 6) (f : OrderFrame) (s : State), s.ctl.linkUp ch = true → s.ctl.level3 = none →
    s.ctl.timersReadable = true →
    Gives (.undefinedFunction ch code f) s
      ((s.ctl.frameTaken ch).placeAnswer ch (.plain f.tag code .refusedFunction))) ∧
  ∀ (c : Controller) (o : Order),
    c.runChecks o = some (.refuse .refusedResetting) ↔
      c.level3 ≠ none ∨ (c.port o.channel).link = .recovering ∧
        o.fn ∈ [some .read, some .write, some .verify, some .formatTrack, some .seek, some .sync, some .claim,
          some .commit]

/-- Checks 2 to 7 on words of good parity: function and management, ranges and max sectors, class ceiling, live tag,
extent of the range, rights (R21 to R25).
The fields of each function and the ranges check 3 holds them to; an order whose words are too few has none (R18, R19,
R22, R167). A field's word counts with all its bits, and a SEEK needs the word of its start LSA alone (logs 10, 27).
The extent of a range is the first valid entry, in ascending index, that contains it, and there is none where no valid
entry does; an ownership order needs the entry it names to be valid, and a FORMAT-TRACK on a spare track looks for no
extent; on words of good parity (R25). -/
def Obligations.ChecksTwoToSeven : Prop :=
  (∀ (c : Controller) (o : Order) (fn : Func), o.fn = some fn → (c.channelRecord o.channel).w0.good = true →
    let disk := fn ∈ [.read, .write, .verify, .formatTrack, .seek]
    let needed : List Right := match fn with
      | .read | .verify | .seek => [.read]
      | .write => [.write]
      | .formatTrack => [.format]
      | .claim => [.write, .format]
      | _ => []
    (c.check2 o = some (.refuse .refusedFunction) ↔
      fn ∈ [.loadTable, .copyActive, .commit, .setDriveTarget, .clearDeferred, .clearSuspect, .clearMonitor] ∧
        (c.channelRecord o.channel).management = false) ∧
    (c.check3 o = some (.refuse .refusedRange) ↔
      disk ∧ o.frame.cls = 3#2 ∨ parseOperands fn o.frame.words = none ∨
      (∃ s n, parseOperands fn o.frame.words = some (.sectors s n) ∧ (c.channelRecord o.channel).maxSectors < n) ∨
      (∃ s n d, parseOperands fn o.frame.words = some (.writeData s n d) ∧
        (c.channelRecord o.channel).maxSectors < n)) ∧
    (c.check4 o = some (.refuse .refusedClass) ↔
      disk ∧ ∃ k, o.cls = some k ∧ (c.channelRecord o.channel).ceiling.rank < k.rank) ∧
    (c.check5 o = some (.refuse .refusedTag) ↔
      ∃ r ∈ c.records, r.channel = o.channel ∧ r.tag = o.frame.tag ∧ r.state ≠ .lingering) ∧
    (c.check6 o = some (.refuse .refusedExtent) ↔ c.orderExtent o = some .notFound) ∧
    (∀ n e, c.orderExtent o = some (.found n e) →
      (c.check7 o = some (.refuse .refusedRights) ↔ needed ≠ [] ∧ ∀ r ∈ needed, e.hasRight o.channel r = false)) ∧
    (c.orderExtent o = none → fn = .formatTrack →
      (c.check7 o = some (.refuse .refusedRights) ↔
        (c.channelRecord o.channel).management = false ∨ c.inFallback = true))) ∧
  (∀ (fn : Func) (ws : List Word) (x : Operands),
    let tables : List (TableId × Nat × Nat) :=
      [(.channel, 1, 3), (.extent, 15, 4), (.remap, 31, 2), (.drive, 0, 5), (.monitor, 0, 1)]
    let ranged (start count : Word) : Prop :=
      1 ≤ count.toNat ∧ count.toNat ≤ 8 ∧ start.toNat + count.toNat ≤ 19200
    (fn = .read ∨ fn = .verify → (parseOperands fn ws = some x ↔ ∃ start count rest, ws = start :: count :: rest ∧
      ranged start count ∧ x = .sectors start.toNat count.toNat)) ∧
    (fn = .write → (parseOperands fn ws = some x ↔ ∃ start count data, ws = start :: count :: data ∧
      ranged start count ∧ data.length = count.toNat * 256 ∧ x = .writeData start.toNat count.toNat data)) ∧
    (fn = .formatTrack → (parseOperands fn ws = some x ↔ ∃ cylinder head fill rest,
      ws = cylinder :: head :: fill :: rest ∧ cylinder.toNat ≤ 407 ∧ head.toNat ≤ 1 ∧
      x = .track cylinder.toNat head.toNat fill)) ∧
    (fn = .seek → (parseOperands fn ws = some x ↔ ∃ lsa rest, ws = lsa :: rest ∧ lsa.toNat ≤ 19199 ∧
      x = .lsa lsa.toNat)) ∧
    (fn ∈ [.claim, .yield, .keep, .release] → (parseOperands fn ws = some x ↔ ∃ n rest, ws = n :: rest ∧
      n.toNat ≤ 15 ∧ x = .extent n.toNat)) ∧
    (fn = .loadTable → (parseOperands fn ws = some x ↔ ∃ number start count rest table last size entries,
      ws = number :: start :: count :: rest ∧ tables[number.toNat]? = some (table, last, size) ∧ 1 ≤ count.toNat ∧
      count.toNat ≤ 16 ∧ start.toNat + count.toNat ≤ last + 1 ∧ count.toNat * size ≤ rest.length ∧
      entries.length = count.toNat ∧ (∀ i ws, entries[i]? = some ws → ws = (rest.drop (i * size)).take size) ∧
      x = .load table start.toNat entries)) ∧
    (fn = .readTable → (parseOperands fn ws = some x ↔ ∃ number named start count rest table last size set,
      ws = number :: named :: start :: count :: rest ∧ tables[number.toNat]? = some (table, last, size) ∧
      [SetId.staged, .active][named.toNat]? = some set ∧ start.toNat ≤ last ∧ 1 ≤ count.toNat ∧ count.toNat ≤ 16 ∧
      x = .list table set start.toNat count.toNat)) ∧
    (fn = .setDriveTarget → (parseOperands fn ws = some x ↔ ∃ target rest, ws = target :: rest ∧
      (target = 0 ∧ x = .target false ∨ target = 1 ∧ x = .target true))) ∧
    (fn = .clearSuspect → (parseOperands fn ws = some x ↔ ∃ lsa rest, ws = lsa :: rest ∧
      (lsa = 65535 ∧ x = .suspectAll ∨ lsa.toNat ≤ 19199 ∧ x = .suspect lsa.toNat))) ∧
    (fn ∈ [.null, .sync, .status, .readSuspect, .copyActive, .commit, .clearDeferred, .clearMonitor] →
      parseOperands fn ws = some .none)) ∧
  (∀ (c : Controller) (lo hi : Nat), (∀ e ∈ c.tables.active.extents.toList, wordsGood e.words = true) →
    (∀ n e, c.extentOf (lo, hi) = .found n e ↔
      c.tables.active.extents[n]? = some e ∧ e.valid = true ∧ e.firstLsa ≤ lo ∧ hi ≤ e.lastLsa ∧
      ∀ m d, m < n → c.tables.active.extents[m]? = some d → ¬(d.valid = true ∧ d.firstLsa ≤ lo ∧ hi ≤ d.lastLsa)) ∧
    (c.extentOf (lo, hi) = .notFound ↔
      ∀ e ∈ c.tables.active.extents.toList, ¬(e.valid = true ∧ e.firstLsa ≤ lo ∧ hi ≤ e.lastLsa))) ∧
  ∀ (c : Controller) (o : Order), (∀ e ∈ c.tables.active.extents.toList, wordsGood e.words = true) →
    (∀ s n, o.operands = some (.sectors s n) → c.orderExtent o = some (c.extentOf (s, s + n - 1))) ∧
    (∀ s n d, o.operands = some (.writeData s n d) → c.orderExtent o = some (c.extentOf (s, s + n - 1))) ∧
    (∀ l, o.operands = some (.lsa l) → c.orderExtent o = some (c.extentOf (l, l))) ∧
    (∀ cylinder head fill, o.operands = some (.track cylinder head fill) →
      (cylinder < 400 → c.orderExtent o =
        some (c.extentOf (cylinder * 48 + head * 24, cylinder * 48 + head * 24 + 23))) ∧
      (400 ≤ cylinder → c.orderExtent o = none)) ∧
    (∀ n e, o.operands = some (.extent n) → c.tables.active.extents[n]? = some e →
      c.orderExtent o = some (if e.valid = true then .found n e else .notFound))

/-- Check 8 by the claim state of an EXCLUSIVE extent; it passes over every other order, a FORMAT-TRACK on a spare track
with no extent among them (R26).
Checks 9 to 11 on words of good parity: the drive target, the slots, the buffers (R27, R28). -/
def Obligations.ChecksEightToEleven : Prop :=
  (∀ (c : Controller) (o : Order),
    (∀ n e, o.fn = some .write ∨ o.fn = some .formatTrack → c.orderExtent o = some (.found n e) → e.exclusive = true →
      (c.claimAt n = some .free → c.check8 o = some (.refuse .refusedClaim)) ∧
      (∀ h t, c.claimAt n = some (.held h) ∨ c.claimAt n = some (.wanted h t) →
        (h = o.channel → c.check8 o = none) ∧
        (h ≠ o.channel → c.check8 o = some (.refuse .refusedClaim))) ∧
      (∀ h w, c.claimAt n = some (.handingOver h w) →
        (h = o.channel → c.check8 o = some (.refuse .claimLost)) ∧
        (h ≠ o.channel → c.check8 o = some (.refuse .refusedClaim)))) ∧
    (∀ n e, c.orderExtent o = some (.found n e) → e.exclusive = false → c.check8 o = none) ∧
    (c.orderExtent o = none → c.check8 o = none) ∧
    (o.fn ≠ some .write → o.fn ≠ some .formatTrack → c.check8 o = none)) ∧
  ∀ (c : Controller) (o : Order), (c.channelRecord o.channel).w0.good = true →
    (c.channelRecord o.channel).w1.good = true →
    (c.check9 o = some (.refuse .refusedDriveOff) ↔ o.isDisk = true ∧ c.drive.targetOn = false) ∧
    (c.check10 o = some (.refuse .commitPending) ↔
      o.fn = some .commit ∧ ∃ r ∈ c.records, r.state = .commitWait) ∧
    (c.check10 o = some (.refuse .refusedListFull) ↔
      ¬(o.fn = some .commit ∧ ∃ r ∈ c.records, r.state = .commitWait) ∧
      (o.isDisk = true ∨ o.fn = some .commit ∨
        (o.fn = some .sync ∧ ∃ r ∈ c.records, r.channel = o.channel ∧ r.early = true) ∨
        (o.fn = some .claim ∧ ∃ n e, c.orderExtent o = some (.found n e) ∧ e.exclusive = true ∧
          c.claimAt n = some (.held o.channel.other))) ∧
      (16 ≤ c.records.length ∨
        (c.channelRecord o.channel).slotQuota ≤ (c.records.filter (·.channel == o.channel)).length)) ∧
    (∀ s n d, o.fn = some .write → o.operands = some (.writeData s n d) →
      (c.check11 o = some (.refuse .refusedBuffers) ↔
        c.freeBuffers.length < n ∨ (c.channelRecord o.channel).bufferQuota < c.channelBuffers o.channel + n)) ∧
    (∀ s n, o.fn = some .read → o.operands = some (.sectors s n) →
      (c.check11 o = some (.refuse .refusedBuffers) ↔ (c.channelRecord o.channel).bufferQuota < n))

/-- A parity fault found while checking enters FALLBACK with TABLE-FAULT, and the order is checked again against what
that entry leaves: refused there, it is refused; a WRITE with its fields in range and its tag free is refused
REFUSED-RIGHTS; a READ that passes is accepted under the fallback extent, entry 0 (R29). -/
def Obligations.CheckingFaultChecksAgain : Prop :=
  ∀ (s : State), s.ctl.timersReadable = true →
    (∀ (i : Instr) (o : Order) (code : AnswerCode), i.order? = some o → s.ctl.linkUp o.channel = true →
      s.ctl.runChecks o = some .fault → (s.ctl.frameTaken o.channel).tableFault.runChecks o = some (.refuse code) →
      Gives i s ((s.ctl.frameTaken o.channel).tableFault.placeAnswer o.channel (.plain o.frame.tag o.code code))) ∧
    (∀ (ch : Channel) (f : OrderFrame) (start count : Nat) (data : List Word),
      s.ctl.runChecks (.of .write ch f) = some .fault → s.ctl.linkUp ch = true →
      parseWrite f.words = some (.writeData start count data) → f.cls ≠ 3#2 →
      (s.ctl.frameTaken ch).tableFault.tagLive ch f.tag = false →
      Gives (.write ch f) s ((s.ctl.frameTaken ch).tableFault.placeAnswer ch (answerTo f .write .refusedRights))) ∧
    (∀ (ch : Channel) (f : OrderFrame) (start count : Nat),
      s.ctl.runChecks (.of .read ch f) = some .fault → s.ctl.linkUp ch = true → s.ctl.drive.state.isFaulted = false →
      parseSectors f.words = some (.sectors start count) →
      (s.ctl.frameTaken ch).tableFault.runChecks (.of .read ch f) = none →
      Gives (.read ch f) s ((s.ctl.frameTaken ch).tableFault.addRecord
        { (s.ctl.frameTaken ch).tableFault.recordFor ch f (.read start count) .waiting with
          cls := Class.ofNat? f.cls.toNat, extent := some 0 }))

/-! Accepted orders. -/

/-- A NULL is answered DONE at once and changes no state; it passes checks 1, 2 and 5 and no other. A READ-SUSPECT is
answered DONE at once with the Suspect List, oldest first, and changes neither the list nor its overflow flag (R36).
Neither has the management word read (log 14).
A STATUS is answered DONE at once with a picture of the controller at that moment, and clears the sending channel's
notice overflow flag (R35). -/
def Obligations.InquiriesAreAnsweredAtOnce : Prop :=
  (∀ (ch : Channel) (f : OrderFrame) (s : State), s.ctl.level3 = none → s.ctl.linkUp ch = true →
    s.ctl.tagLive ch f.tag = false → s.ctl.timersReadable = true →
    Gives (.null ch f) s ((s.ctl.frameTaken ch).placeAnswer ch (answerTo f .null .done)) ∧
    Gives (.readSuspect ch f) s ((s.ctl.frameTaken ch).placeAnswer ch
      { answerTo f .readSuspect .done with body := .suspects s.ctl.media.suspects })) ∧
  ∀ (ch : Channel) (f : OrderFrame) (s : State), s.ctl.level3 = none → s.ctl.linkUp ch = true →
    s.ctl.tagLive ch f.tag = false → (s.ctl.channelRecord ch).w0.good = true → s.ctl.timersReadable = true →
    ∃ b : StatusBlock,
      Gives (.status ch f) s (((s.ctl.frameTaken ch).placeAnswer ch
        { answerTo f .status .done with body := .status b }).modPort ch fun p => { p with overflow := false }) ∧
      b.channel = ch ∧ b.linkA = s.ctl.ports.a.link ∧ b.linkB = s.ctl.ports.b.link ∧
      b.errorCount = (s.ctl.port ch).errorCount ∧ b.overflow = (s.ctl.port ch).overflow ∧
      b.management = (s.ctl.channelRecord ch).management ∧ b.mode = s.ctl.tables.mode ∧
      b.unconfirmed = s.ctl.tables.remapUnconfirmed ∧ b.commitPending = s.ctl.work.commitPending ∧
      b.state = s.ctl.drive.state ∧ b.targetOn = s.ctl.drive.targetOn ∧
      (b.targetPending = false ↔
        if s.ctl.drive.targetOn then s.ctl.drive.state = .ready ∨ s.ctl.drive.state = .parked ∨
          s.ctl.drive.state = .unloading ∧ s.ctl.drive.unloadIdle = true
        else s.ctl.drive.state = .stopped ∨ s.ctl.drive.state = .cooling) ∧
      b.cartridge = s.ctl.drive.cartridgePresent ∧ b.cylinder = s.ctl.engine.cylinder ∧
      b.records = s.ctl.records.length ∧ b.ownRecords = (s.ctl.records.filter (·.channel == ch)).length ∧
      b.ownLingering = (s.ctl.records.filter fun r => r.channel == ch && r.state == .lingering).length ∧
      b.freeBuffers = ((List.range 12).filter fun i => s.ctl.records.all fun r => !r.buffers.contains i).length ∧
      b.ownBuffers = ((s.ctl.records.filter (·.channel == ch)).flatMap (·.buffers)).length ∧
      b.deferredSet = (s.ctl.work.deferred.get ch).isSome ∧ b.degraded = s.ctl.media.degraded ∧
      b.counted = s.ctl.media.counted ∧ b.retried = s.ctl.media.retried ∧
      b.consecutive = s.ctl.media.consecutive ∧ b.suspects = s.ctl.media.suspects.length ∧
      b.suspectOverflow = s.ctl.media.suspectOverflow ∧
      (∀ x ∈ b.claims, ∃ cl, s.ctl.claimAt x.extent = some cl ∧ x.state = cl.name ∧ x.holder = cl.holder ∧
        x.waiter = cl.waiter) ∧
      (∀ e cl, s.ctl.claimAt e = some cl → ∃ x ∈ b.claims, x.extent = e)

/-- A READ, VERIFY, SEEK or logical FORMAT-TRACK that passes its checks becomes a WAITING record with the extent found
and the next acceptance sequence number, and a FORMAT-TRACK on a spare track one with no extent (R30, R39); FAULTED
apart. -/
def Obligations.DiskOrderBecomesWaitingRecord : Prop :=
  ∀ (ch : Channel) (f : OrderFrame) (s : State) (n : Nat) (e : ExtentEntry), s.ctl.timersReadable = true →
    s.ctl.drive.state.isFaulted = false →
    let c := s.ctl.frameTaken ch
    let accepted (job : Job) (extent : Option Nat) : Controller := c.addRecord
      { c.recordFor ch f job .waiting with cls := Class.ofNat? f.cls.toNat, extent := extent }
    (∀ start count, s.ctl.passes (.of .read ch f) = true → parseSectors f.words = some (.sectors start count) →
      s.ctl.extentOf (start, start + count - 1) = .found n e →
      Gives (.read ch f) s (accepted (.read start count) (some n))) ∧
    (∀ start count, s.ctl.passes (.of .verify ch f) = true → parseSectors f.words = some (.sectors start count) →
      s.ctl.extentOf (start, start + count - 1) = .found n e →
      Gives (.verify ch f) s (accepted (.verify start count) (some n))) ∧
    (∀ lsa, s.ctl.passes (.of .seek ch f) = true → parseLsa f.words = some (.lsa lsa) →
      s.ctl.extentOf (lsa, lsa) = .found n e → Gives (.seek ch f) s (accepted (.seek lsa) (some n))) ∧
    (∀ cylinder head fill, s.ctl.passes (.of .formatTrack ch f) = true →
      parseTrack f.words = some (.track cylinder head fill) →
      (cylinder < 400 → s.ctl.extentOf (cylinder * 48 + head * 24, cylinder * 48 + head * 24 + 23) = .found n e →
        Gives (.formatTrack ch f) s (accepted (.formatTrack cylinder head fill) (some n))) ∧
      (400 ≤ cylinder → Gives (.formatTrack ch f) s (accepted (.formatTrack cylinder head fill) none)))

/-- A WRITE that passes its checks takes the lowest free buffers, one sector a buffer in ascending LSA. Where its
extent's write-behind flag is on, its channel is permitted write-behind and has no deferred error, it becomes LINGERING
with its early mark set and is answered DONE, EARLY; otherwise it becomes WAITING and is not yet answered (R30, R43,
R105); FAULTED apart. -/
def Obligations.WriteWaitsOrIsAnsweredEarly : Prop :=
  ∀ (ch : Channel) (f : OrderFrame) (s : State) (n : Nat) (e : ExtentEntry) (start count : Nat) (data : List Word),
    s.ctl.timersReadable = true → s.ctl.drive.state.isFaulted = false → s.ctl.passes (.of .write ch f) = true →
    parseWrite f.words = some (.writeData start count data) →
    s.ctl.extentOf (start, start + count - 1) = .found n e →
    let c := s.ctl.frameTaken ch
    let held := s.ctl.freeBuffers.take count
    let filled := c.fillBuffers held data
    let record (state : RecState) (early : Bool) : Record :=
      { c.recordFor ch f (.write start count) state with
        cls := Class.ofNat? f.cls.toNat, extent := some n, buffers := held, early := early }
    held.length = count ∧
    (∀ i b, held[i]? = some b → filled.bufferWords b = sectorWords data i) ∧
    (∀ b, b ∉ held → filled.bufferWords b = s.ctl.bufferWords b) ∧
    (e.writeBehind = true → (s.ctl.channelRecord ch).writeBehindPermitted = true →
      s.ctl.work.deferred.get ch = none →
      Gives (.write ch f) s ((filled.addRecord (record .lingering true)).placeAnswer ch
        { answerTo f .write .done with early := true })) ∧
    (e.writeBehind = false ∨ (s.ctl.channelRecord ch).writeBehindPermitted = false ∨
      s.ctl.work.deferred.get ch ≠ none → Gives (.write ch f) s (filled.addRecord (record .waiting false)))

/-- A SYNC of a channel with no unwritten early write is answered DONE at once, with the channel's deferred error
record where it is set; one of a channel that has some raises them to URGENT and becomes a SYNC-WAIT record (R113,
R114, R115). Its management word is not read (log 14).
The SYNC completion test of a channel, which every leaving of an awaited record makes and SYNC_COMPLETION makes once
more (log 1): every SYNC-WAIT record of the channel with no older unwritten early write left is answered as a SYNC, in
acceptance order, and leaves; nothing else changes (R114, R115). -/
def Obligations.SyncAwaitsEarlyWrites : Prop :=
  ∀ (ch : Channel) (f : OrderFrame) (s : State), s.ctl.timersReadable = true →
    let early (r : Record) : Bool := r.channel == ch && r.early
    let answer (tag : BitVec 8) : Answer :=
      { Answer.plain tag (BitVec.ofNat 6 6) .done with deferred := s.ctl.work.deferred.get ch }
    (s.ctl.level3 = none → (s.ctl.port ch).link = .attached → s.ctl.tagLive ch f.tag = false →
      s.ctl.records.any early = false →
      Gives (.sync ch f) s ((s.ctl.frameTaken ch).placeAnswer ch (answer f.tag))) ∧
    (s.ctl.passes (.of .sync ch f) = true → s.ctl.records.any early = true →
      Gives (.sync ch f) s (((s.ctl.frameTaken ch).setRecords
        (s.ctl.records.map fun r => if early r then { r with cls := some .urgent } else r)).addRecord
          (s.ctl.recordFor ch f .sync .syncWait))) ∧
    Gives (.syncCompletion ch) s (s.ctl.completeSyncs ch) ∧
    (s.ctl.sequenceSound →
      let complete (r : Record) : Bool :=
        r.channel == ch && r.state == .syncWait && s.ctl.records.all fun o => !(early o && decide (o.seq < r.seq))
      let c := s.ctl.completeSyncs ch
      c.records = s.ctl.records.filter (fun r => !complete r) ∧
      (c.port ch).ready = (s.ctl.port ch).ready ++ (s.ctl.records.filter complete).map (fun r => answer r.tag) ∧
      (c.port ch).notices = (s.ctl.port ch).notices ∧ c.ports.get ch.other = s.ctl.ports.get ch.other ∧
      c.work.deferred = s.ctl.work.deferred ∧ c.work.commitPending = s.ctl.work.commitPending ∧
      c.claims = s.ctl.claims ∧ c.tables = s.ctl.tables ∧ c.engine = s.ctl.engine ∧ c.drive = s.ctl.drive ∧
      c.media = s.ctl.media)

/-! Claims. -/

/-- A CLAIM on an EXCLUSIVE extent that is FREE is GRANTED at once and the extent becomes HELD; from the holder it is
answered ALREADY-HELD, from the other channel of a WANTED or HANDING-OVER extent CLAIM-PENDING, and on a SHARED extent
NOT-EXCLUSIVE, and these change nothing (R68).
A CLAIM on an extent HELD by the other channel becomes a CLAIM-WAIT record, the extent becomes WANTED, CLAIM-WANTED
is queued to the holder, and the yield timer starts with the yield limit in tenths where that is above 0; a yield limit
that fails parity is a table fault, which drops the claim (R69, R75). -/
def Obligations.ClaimIsAnsweredOrWaits : Prop :=
  (∀ (ch : Channel) (f : OrderFrame) (s : State) (n : Nat) (e : ExtentEntry), s.ctl.timersReadable = true →
    s.ctl.passes (.of .claim ch f) = true → parseExtent f.words = some (.extent n) →
    s.ctl.tables.active.extents[n]? = some e →
    let c := s.ctl.frameTaken ch
    (e.exclusive = false → Gives (.claim ch f) s (c.placeAnswer ch (answerTo f .claim .notExclusive))) ∧
    (e.exclusive = true →
      (s.ctl.claimAt n = some .free →
        Gives (.claim ch f) s ((c.setClaim n (some (.held ch))).placeAnswer ch (answerTo f .claim .granted))) ∧
      (s.ctl.claimAt n = some (.held ch) →
        Gives (.claim ch f) s (c.placeAnswer ch (answerTo f .claim .alreadyHeld))) ∧
      (∀ h t w, s.ctl.claimAt n = some (.wanted h t) ∨ s.ctl.claimAt n = some (.handingOver h w) →
        Gives (.claim ch f) s (c.placeAnswer ch
          (answerTo f .claim (if h = ch then .alreadyHeld else .claimPending)))))) ∧
  ∀ (ch : Channel) (f : OrderFrame) (s : State) (n : Nat) (e : ExtentEntry), s.ctl.timersReadable = true →
    s.ctl.passes (.of .claim ch f) = true → parseExtent f.words = some (.extent n) →
    s.ctl.tables.active.extents[n]? = some e → e.exclusive = true → s.ctl.claimAt n = some (.held ch.other) →
    s.ctl.noticesReadable ch.other = true →
    let c := s.ctl.frameTaken ch
    let wanted := ((c.addRecord { c.recordFor ch f .claim .claimWait with extent := some n }).setClaim n
      (some (.wanted ch.other none))).offer ch.other (.claimWanted n)
    (e.w3.good = true → e.yieldLimit = 0 → Gives (.claim ch f) s wanted) ∧
    (e.w3.good = true → 0 < e.yieldLimit →
      Gives (.claim ch f) s (wanted.setClaim n (some (.wanted ch.other (some (e.yieldLimit * 100)))))) ∧
    (e.w3.good = false → Gives (.claim ch f) s wanted.tableFault)

/-- The holder of a WANTED extent: KEEP returns it to HELD, answers the waiter's CLAIM KEPT and itself DONE; YIELD and
RELEASE begin the handover to the waiter, answered DONE after the state change; RELEASE in HELD begins one to
nobody (R70, R71, R72, R77).
A RELEASE from the waiter answers its CLAIM CANCELLED and then itself DONE; WANTED returns to HELD, HANDING-OVER goes
on to nobody (R73). -/
def Obligations.HolderAndWaiterMoveTheClaim : Prop :=
  (∀ (ch : Channel) (f : OrderFrame) (s : State) (n : Nat) (e : ExtentEntry) (t : Timer),
    s.ctl.timersReadable = true → parseExtent f.words = some (.extent n) →
    s.ctl.tables.active.extents[n]? = some e → e.exclusive = true →
    let c := s.ctl.frameTaken ch
    let handover (toWaiter : Bool) (fn : Func) : Controller :=
      ((((c.setClaim n (some (.handingOver ch toWaiter))).placeAnswer ch (answerTo f fn .done)).turnAwayWrites ch
        n).endDrain n)
    (s.ctl.claimAt n = some (.wanted ch t) →
      (s.ctl.passes (.of .keep ch f) = true → Gives (.keep ch f) s
        (((c.setClaim n (some (.held ch))).answerWaiter ch.other n .kept).placeAnswer ch (answerTo f .keep .done))) ∧
      (s.ctl.passes (.of .yield ch f) = true → Gives (.yield ch f) s (handover true .yield)) ∧
      (s.ctl.passes (.of .release ch f) = true → Gives (.release ch f) s (handover true .release))) ∧
    (s.ctl.claimAt n = some (.held ch) → s.ctl.passes (.of .release ch f) = true →
      Gives (.release ch f) s (handover false .release))) ∧
  ∀ (ch : Channel) (f : OrderFrame) (s : State) (n : Nat) (e : ExtentEntry), s.ctl.timersReadable = true →
    parseExtent f.words = some (.extent n) → s.ctl.tables.active.extents[n]? = some e → e.exclusive = true →
    s.ctl.passes (.of .release ch f) = true →
    let withdrawn (after : Claim) : Controller :=
      (((s.ctl.frameTaken ch).setClaim n (some after)).answerWaiter ch n .cancelled).placeAnswer ch
        (answerTo f .release .done)
    (∀ t, s.ctl.claimAt n = some (.wanted ch.other t) → Gives (.release ch f) s (withdrawn (.held ch.other))) ∧
    (s.ctl.claimAt n = some (.handingOver ch.other true) →
      Gives (.release ch f) s (withdrawn (.handingOver ch.other false)))

/-- A YIELD, KEEP or RELEASE that finds no place for it is answered at once and changes nothing: NOT-HOLDER, TOO-LATE
from a holder that is too late for it, NOT-EXCLUSIVE on a SHARED extent (R70, R71, R72, R74). -/
def Obligations.OwnershipOrderWithoutAPlaceChangesNothing : Prop :=
  ∀ (i : Instr) (fn : Func) (ch : Channel) (f : OrderFrame) (s : State) (n : Nat) (e : ExtentEntry) (t : Timer)
    (w : Bool), i.order? = some (.of fn ch f) → fn ∈ [.yield, .keep, .release] → s.ctl.timersReadable = true →
    s.ctl.passes (.of fn ch f) = true → parseExtent f.words = some (.extent n) →
    s.ctl.tables.active.extents[n]? = some e →
    let answered (code : AnswerCode) : Prop :=
      Gives i s ((s.ctl.frameTaken ch).placeAnswer ch (answerTo f fn code))
    (e.exclusive = false → answered .notExclusive) ∧
    (e.exclusive = true →
      (s.ctl.claimAt n = some .free → answered .notHolder) ∧
      (s.ctl.claimAt n = some (.held ch.other) → answered .notHolder) ∧
      (s.ctl.claimAt n = some (.handingOver ch.other false) → answered .notHolder) ∧
      (fn ≠ .release → s.ctl.claimAt n = some (.wanted ch.other t) → answered .notHolder) ∧
      (fn ≠ .release → s.ctl.claimAt n = some (.handingOver ch.other true) → answered .notHolder) ∧
      (fn ≠ .release → s.ctl.claimAt n = some (.held ch) → answered .tooLate) ∧
      (s.ctl.claimAt n = some (.handingOver ch w) → answered .tooLate))

/-- The end of a drain: once the old holder has no writing record of the extent LINGERING or ACTIVE, the claim passes to
the waiter, whose CLAIM is answered GRANTED, or becomes FREE where there is none; before that nothing happens (R59,
R78).
The expiry of a yield timer takes the claim by force: HANDING-OVER to the waiter, CLAIM-LOST to the holder, the
holder's WAITING writes turned away, and the drain's end where the drain is empty (R76, R77). With no yield timer
running the command has no effect (log 2). -/
def Obligations.DrainEndAndYieldTimerMoveTheClaim : Prop :=
  (∀ (s : State) (n : Nat) (h : Channel) (toWaiter : Bool), s.ctl.timersReadable = true →
    s.ctl.claimAt n = some (.handingOver h toWaiter) →
    ((∀ r ∈ s.ctl.records, r.channel = h → r.isWriting = true → r.extent = some n →
        r.state ≠ .lingering ∧ r.state ≠ .active) →
      (toWaiter = true → Gives (.drainEnd n) s
        ((s.ctl.setClaim n (some (.held h.other))).answerWaiter h.other n .granted)) ∧
      (toWaiter = false → Gives (.drainEnd n) s (s.ctl.setClaim n (some .free)))) ∧
    ((∃ r ∈ s.ctl.records, r.channel = h ∧ r.isWriting = true ∧ r.extent = some n ∧
        (r.state = .lingering ∨ r.state = .active)) → Gives (.drainEnd n) s s.ctl)) ∧
  ∀ (s : State) (n : Nat) (h : Channel), s.ctl.timersReadable = true →
    (∀ d, s.ctl.claimAt n = some (.wanted h (some d)) → s.ctl.noticesReadable h = true →
      Gives (.yieldTimerExpiry n) s
        ((((s.ctl.setClaim n (some (.handingOver h true))).offer h (.claimLost n)).turnAwayWrites h n).endDrain n)) ∧
    ((∀ h d, s.ctl.claimAt n ≠ some (.wanted h (some d))) → Gives (.yieldTimerExpiry n) s s.ctl)

/-- A record that leaves: its answer, where it has one, joins its channel's ready answers; it is gone from the Work List
with its slot and its tag, and the buffers it held are free; a COMMIT-WAIT record clears the COMMIT-pending mark; and
where it was LINGERING or ACTIVE, its leaving is then reported to the Claim Unit and, where it was LINGERING or early,
to the SYNC completion test (SyncAwaitsEarlyWrites). A record that has already left is not touched and gives no answer
(R42). The report to the Claim Unit ends the drain that the record counted in, once no other record counts there: the
claim passes to the waiter, or becomes FREE (R59, R78). A waiter's CLAIM that is answered leaves in this way.
Step 2 of a handover: the old holder's WAITING writing records of the extent are answered CLAIM-LOST in acceptance
order and leave; nothing else in the Work List, no claim and nothing of the other channel is touched (R77). -/
def Obligations.LeavingRecordIsAnsweredAndFreed : Prop :=
  (∀ (c : Controller) (r : Record) (ans : Option Answer), c.sequenceSound →
    (r ∈ c.records → c.buffersSound →
      let d := c.takeOut r.seq ans
      d.records = c.records.filter (·.seq != r.seq) ∧ r ∉ d.records ∧
      (d.port r.channel).ready = (c.port r.channel).ready ++ ans.toList ∧
      d.port r.channel.other = c.port r.channel.other ∧
      (∀ b ∈ r.buffers, b ∈ d.freeBuffers) ∧
      d.work.commitPending = (c.work.commitPending && r.state != .commitWait) ∧
      d.claims = c.claims ∧ d.work.deferred = c.work.deferred ∧ d.tables = c.tables ∧
      (r.state ≠ .lingering → r.state ≠ .active → c.leave r.seq ans = d) ∧
      (r.state = .active → r.early = false → c.leave r.seq ans = d.drainFalls r) ∧
      (r.state = .lingering ∨ r.state = .active ∧ r.early = true →
        c.leave r.seq ans = (d.drainFalls r).completeSyncs r.channel)) ∧
    ((∀ q ∈ c.records, q.seq ≠ r.seq) → c.leave r.seq ans = c)) ∧
  (∀ (c : Controller) (r : Record),
    let counts (q : Record) (n : Nat) : Prop := q.channel = r.channel ∧ q.isWriting = true ∧ q.extent = some n ∧
      (q.state = .lingering ∨ q.state = .active)
    let falls (n : Nat) (toWaiter : Bool) : Prop := counts r n ∧
      c.claimAt n = some (.handingOver r.channel toWaiter) ∧ ∀ q ∈ c.records, ¬counts q n
    (∀ n, falls n true → c.drainFalls r =
      (c.setClaim n (some (.held r.channel.other))).answerWaiter r.channel.other n .granted) ∧
    (∀ n, falls n false → c.drainFalls r = c.setClaim n (some .free)) ∧
    ((∀ n toWaiter, ¬falls n toWaiter) → c.drainFalls r = c)) ∧
  (∀ (c : Controller) (ch : Channel) (n : Nat) (code : AnswerCode), c.sequenceSound →
    let waits (q : Record) : Prop := q.state = .claimWait ∧ q.channel = ch ∧ q.extent = some n
    (∀ q ∈ c.records, waits q → (∀ p ∈ c.records, waits p → p = q) →
      c.answerWaiter ch n code = c.leave q.seq (some (q.answer code))) ∧
    ((∀ q ∈ c.records, ¬waits q) → c.answerWaiter ch n code = c)) ∧
  ∀ (c : Controller) (ch : Channel) (n : Nat), c.sequenceSound →
    let lost (r : Record) : Bool := r.state == .waiting && r.isWriting && r.channel == ch && r.extent == some n
    let d := c.turnAwayWrites ch n
    d.records = c.records.filter (fun r => !lost r) ∧
    (d.port ch).ready = (c.port ch).ready ++ (c.records.filter lost).map (·.answer .claimLost) ∧
    (d.port ch).notices = (c.port ch).notices ∧ d.port ch.other = c.port ch.other ∧ d.claims = c.claims ∧
    d.work.deferred = c.work.deferred ∧ d.work.commitPending = c.work.commitPending ∧ d.tables = c.tables ∧
    d.engine = c.engine ∧ d.drive = c.drive ∧ d.media = c.media

/-! Tables and management. -/

/-- A READ-TABLE is answered DONE at once with the entries from the start index, count of them or as many as remain,
each with its words and a mark that says whether one fails parity, and with the index of the first failed one; a failed
word of the active set is then a table fault (R19, R37). -/
def Obligations.ReadTableListsEntries : Prop :=
  ∀ (ch : Channel) (f : OrderFrame) (s : State) (table : TableId) (start count : Nat), s.ctl.timersReadable = true →
    s.ctl.passes (.of .readTable ch f) = true →
    let listed (t : TableSet) : List ListedEntry := (((t.entries table).drop start).take count).map fun ws =>
      { words := ws.map (·.value), failed := ws.any fun w => !w.good }
    let answered (es : List ListedEntry) : Controller := (s.ctl.frameTaken ch).placeAnswer ch
      { answerTo f .readTable .done with
        body := .table es, index := (es.findIdx? (·.failed)).map (start + ·) }
    (parseList f.words = some (.list table .staged start count) →
      Gives (.readTable ch f) s (answered (listed s.ctl.tables.staged))) ∧
    (parseList f.words = some (.list table .active start count) →
      ((listed s.ctl.tables.active).all (fun e => !e.failed) = true →
        Gives (.readTable ch f) s (answered (listed s.ctl.tables.active))) ∧
      ((listed s.ctl.tables.active).any (·.failed) = true →
        Gives (.readTable ch f) s (answered (listed s.ctl.tables.active)).tableFault))

/-- A LOAD-TABLE writes its entries into the staged set one by one: the entry at that table and index becomes these
words with fresh parity, and every other entry stays. The first that is out of range stops the writing and gives
ENTRY-RANGE with its index; with none it is answered STAGED. While a COMMIT waits it is answered STAGE-LOCKED and
nothing is written (R142).
A COPY-ACTIVE makes the staged set equal to the active set and is answered STAGED; a word of the active set that fails
parity is copied as it stands and is then a table fault. While a COMMIT waits it is answered STAGE-LOCKED and nothing
is copied (R144).
An entry is in range where each of its fields is (R143), at the places of R179; of an invalid extent and of an unused
remap position only that field counts. A word of one field is that field with all its bits, and unused bits of the
other words are not tested (log 10). -/
def Obligations.LoadAndCopyWriteTheStagedSet : Prop :=
  (∀ (table : TableId) (ws : List Word), entryInRange table ws = true ↔ match table with
    | .channel => ∃ w0 w1 w2, ws = [w0, w1, w2] ∧ field w0 13 12 ≤ 2 ∧ 1 ≤ field w0 11 8 ∧ field w0 11 8 ≤ 8 ∧
        1 ≤ field w0 7 4 ∧ field w0 7 4 ≤ 12 ∧ 1 ≤ w1.toNat ∧ w1.toNat ≤ 16 ∧ w2.toNat < 2 ^ 10
    | .extent => ∃ w0 w1 w2 w3, ws = [w0, w1, w2, w3] ∧
        (bit w0 15 = true → w1.toNat ≤ 19199 ∧ w2.toNat ≤ 19199 ∧ w3.toNat ≤ 250)
    | .remap => ∃ w0 w1, ws = [w0, w1] ∧ (bit w0 15 = true → field w0 14 0 ≤ 19199 ∧ w1.toNat ≤ 383)
    | .drive => ∃ w0 w1 w2 w3 w4, ws = [w0, w1, w2, w3, w4] ∧ 100 ≤ w0.toNat ∧ w0.toNat ≤ 1200 ∧ 50 ≤ w1.toNat ∧
        w1.toNat ≤ 600 ∧ 10 ≤ w2.toNat ∧ w2.toNat ≤ 300 ∧ 5 ≤ field w3 15 10 ∧ field w3 15 10 ≤ 50 ∧
        field w3 5 0 ≤ 60 ∧ 1 ≤ field w4 15 12 ∧ 1 ≤ field w4 11 8
    | .monitor => ∃ w0, ws = [w0] ∧ 1 ≤ field w0 15 8 ∧ field w0 15 8 ≤ 64 ∧ 1 ≤ field w0 3 0 ∧ field w0 3 0 ≤ 8) ∧
  (∀ (t : TableSet) (table : TableId) (i : Nat) (ws : List Word), entryInRange table ws = true →
    i < (t.entries table).length →
    let d := t.writeEntry table i ws
    (d.entries table)[i]? = some (ws.map fun w => { value := w, good := true }) ∧
    (∀ k, k ≠ i → (d.entries table)[k]? = (t.entries table)[k]?) ∧
    ∀ other, other ≠ table → d.entries other = t.entries other) ∧
  ((∀ (t : TableSet) (table : TableId) (start : Nat) (good : List (List Word)) (bad : List Word)
      (rest : List (List Word)), (∀ ws ∈ good, entryInRange table ws = true) →
    let written := (good.zipIdx start).foldl (fun t p => t.writeEntry table p.2 p.1) t
    t.load table start good = (written, none) ∧
    (entryInRange table bad = false →
      t.load table start (good ++ bad :: rest) = (written, some (start + good.length)))) ∧
  ∀ (ch : Channel) (f : OrderFrame) (s : State) (table : TableId) (start : Nat) (entries : List (List Word))
    (t : TableSet), s.ctl.timersReadable = true → s.ctl.passes (.of .loadTable ch f) = true →
    parseLoad f.words = some (.load table start entries) →
    let c := s.ctl.frameTaken ch
    (s.ctl.work.commitPending = true →
      Gives (.loadTable ch f) s (c.placeAnswer ch (answerTo f .loadTable .stageLocked))) ∧
    (s.ctl.work.commitPending = false →
      (s.ctl.tables.staged.load table start entries = (t, none) → Gives (.loadTable ch f) s
        ((c.setTables { s.ctl.tables with staged := t }).placeAnswer ch (answerTo f .loadTable .staged))) ∧
      (∀ i, s.ctl.tables.staged.load table start entries = (t, some i) → Gives (.loadTable ch f) s
        ((c.setTables { s.ctl.tables with staged := t }).placeAnswer ch
          { answerTo f .loadTable .entryRange with index := some i })))) ∧
  ∀ (ch : Channel) (f : OrderFrame) (s : State), s.ctl.timersReadable = true →
    s.ctl.passes (.of .copyActive ch f) = true →
    let c := s.ctl.frameTaken ch
    let copied := c.setTables { s.ctl.tables with staged := s.ctl.tables.active }
    (s.ctl.work.commitPending = true →
      Gives (.copyActive ch f) s (c.placeAnswer ch (answerTo f .copyActive .stageLocked))) ∧
    (s.ctl.work.commitPending = false →
      (s.ctl.tables.active.good = true →
        Gives (.copyActive ch f) s (copied.placeAnswer ch (answerTo f .copyActive .staged))) ∧
      (s.ctl.tables.active.good = false →
        Gives (.copyActive ch f) s (copied.tableFault.placeAnswer ch (answerTo f .copyActive .staged))))

/-- A COMMIT that passes its checks becomes a COMMIT-WAIT record and sets the COMMIT-pending mark (R30).
The checks of the staged set in their order, the first that fails giving reason and index (R147): STAGE-DAMAGED at the
set position of the first entry with a failing word; BOUNDS at the table index of the first extent that is valid with
its first LSA above its last or has a field out of range (for the field, the model's choice: log 48), then at the set
position of the first other entry with a field out of range; OVERLAP; REMAP-ORDER; SPARE-REUSED; NO-MANAGER without an
index where neither Channel Record has management.
The quiet point, with no record ACTIVE and a COMMIT-WAIT record present. A staged set that fails a check gives
COMMIT-FAILED with its reason and index, and everything but the Work List stays (R151). One that passes becomes the
active set, the mode becomes NORMAL and remap-unconfirmed is cleared; a claim survives where its staged entry is valid,
EXCLUSIVE and covers the same LSAs, every other valid EXCLUSIVE entry begins in FREE, and no other entry has a claim
state. Each claim that does not survive gives CLAIM-LOST to its holder, under the enable set before the commit, and
REVOKED to its waiter's CLAIM, which leaves, in ascending extent number (R81); then TABLES-COMMITTED is offered to both
channels under the new enable sets, and the COMMIT is answered COMMITTED and leaves (R80, R150). With a record ACTIVE
nothing happens (R55). -/
def Obligations.CommitWaitsAndCommitsAtTheQuietPoint : Prop :=
  (∀ (ch : Channel) (f : OrderFrame) (s : State), s.ctl.timersReadable = true →
    s.ctl.passes (.of .commit ch f) = true →
    Gives (.commit ch f) s (((s.ctl.frameTaken ch).addRecord (s.ctl.recordFor ch f .commit .commitWait)).modWork
      fun w => { w with commitPending := true })) ∧
  (∀ t : TableSet,
    let at? (i : Nat) : Option (TableId × List TWord) :=
      if i < 2 then ((t.entries .channel)[i]?).map fun ws => (.channel, ws)
      else if i < 18 then ((t.entries .extent)[i - 2]?).map fun ws => (.extent, ws)
      else if i < 50 then ((t.entries .remap)[i - 18]?).map fun ws => (.remap, ws)
      else if i = 50 then some (.drive, t.drive.words)
      else if i = 51 then some (.monitor, t.monitor.words)
      else none
    let damaged (i : Nat) : Prop := ∃ table ws, at? i = some (table, ws) ∧ ∃ w ∈ ws, w.good = false
    let badExtent (i : Nat) : Prop := ∃ e, t.extents[i]? = some e ∧
      (e.valid = true ∧ e.lastLsa < e.firstLsa ∨ entryInRange .extent (e.words.map (·.value)) = false)
    let badOther (i : Nat) : Prop := ∃ table ws, at? i = some (table, ws) ∧ table ≠ .extent ∧
      entryInRange table (ws.map (·.value)) = false
    let first (p : Nat → Prop) (i : Nat) : Prop := p i ∧ ∀ k, k < i → ¬p k
    (∀ i, first damaged i → t.commitFailure = some (.stageDamaged, some i)) ∧
    ((∀ i, ¬damaged i) →
      (∀ i, first badExtent i → t.commitFailure = some (.bounds, some i)) ∧
      ((∀ i, ¬badExtent i) →
        (∀ i, first badOther i → t.commitFailure = some (.bounds, some i)) ∧
        ((∀ i, ¬badOther i) →
          (∀ i, t.overlapAt = some i → t.commitFailure = some (.overlap, some i)) ∧
          (t.overlapAt = none →
            (∀ i, t.remapOrderAt = some i → t.commitFailure = some (.remapOrder, some i)) ∧
            (t.remapOrderAt = none →
              (∀ i, t.spareReusedAt = some i → t.commitFailure = some (.spareReused, some i)) ∧
              (t.spareReusedAt = none → t.commitFailure =
                if t.channels.a.management = true ∨ t.channels.b.management = true then none
                else some (.noManager, none)))))))) ∧
  ∀ (s : State) (r : Record), s.ctl.timersReadable = true → s.ctl.sequenceSound → r ∈ s.ctl.records →
    r.state = .commitWait → (∀ q ∈ s.ctl.records, q.state = .commitWait → r.seq ≤ q.seq) →
    (s.ctl.anyIn .active = true → Gives .commitQuietPoint s s.ctl) ∧
    (s.ctl.anyIn .active = false →
      (∀ reason index, s.ctl.tables.staged.commitFailure = some (reason, index) →
        Gives .commitQuietPoint s (s.ctl.leave r.seq
          (some { r.answer .commitFailed with reason := some reason, index := index }))) ∧
      (s.ctl.tables.staged.commitFailure = none → s.ctl.noticesReadable .a = true →
        s.ctl.noticesReadable .b = true → ∃ c : Controller, Gives .commitQuietPoint s c ∧
        c.tables = { staged := s.ctl.tables.staged, active := s.ctl.tables.staged, mode := .normal
                     remapUnconfirmed := false } ∧
        (∀ n st a, s.ctl.tables.staged.extents[n]? = some st → s.ctl.tables.active.extents[n]? = some a →
          (st.valid = true ∧ st.exclusive = true →
            ((∃ cl, s.ctl.claimAt n = some cl) ∧ a.w1.good = true ∧ a.w2.good = true ∧ a.firstLsa = st.firstLsa ∧
              a.lastLsa = st.lastLsa → c.claimAt n = s.ctl.claimAt n) ∧
            (¬((∃ cl, s.ctl.claimAt n = some cl) ∧ a.w1.good = true ∧ a.w2.good = true ∧
              a.firstLsa = st.firstLsa ∧ a.lastLsa = st.lastLsa) → c.claimAt n = some .free)) ∧
          (¬(st.valid = true ∧ st.exclusive = true) → c.claimAt n = none)) ∧
        (let survives (n : Nat) : Prop := ∃ st a, s.ctl.tables.staged.extents[n]? = some st ∧
            s.ctl.tables.active.extents[n]? = some a ∧ st.valid = true ∧ st.exclusive = true ∧ a.w1.good = true ∧
            a.w2.good = true ∧ a.firstLsa = st.firstLsa ∧ a.lastLsa = st.lastLsa
          ∀ dropped : List Nat, dropped.Pairwise (· < ·) → (∀ n, n ∈ dropped ↔ n < 16 ∧ ¬survives n) →
            let revoked := s.ctl.waitersOn dropped
            c.records = s.ctl.records.filter (fun q => q.seq != r.seq && !revoked.contains q) ∧
            ∀ ch, (c.port ch).ready = (s.ctl.port ch).ready ++
                (revoked.filter (·.channel == ch)).map (·.answer .revoked) ++
                (if r.channel = ch then [r.answer .committed] else []) ∧
              (c.port ch).notices = ((((s.ctl.heldBy ch dropped).map Notice.claimLost).foldl
                (fun (p : Port) n => p.takeNotice ((s.ctl.channelRecord ch).enables 2) n) (s.ctl.port ch)).takeNotice
                  ((s.ctl.tables.staged.channels.get ch).enables 3) .tablesCommitted).notices) ∧
        c.work.commitPending = false ∧
        c.work.deferred = s.ctl.work.deferred ∧ c.engine = s.ctl.engine ∧ c.drive.still = s.ctl.drive.still ∧
        c.media = s.ctl.media))

/-- The overlap check of a commit finds the first extent that shares an LSA with a valid extent of smaller index, both
boundaries inclusive, invalid entries taking no part (R148).
The remap checks of a commit: REMAP-ORDER at the first used position that follows an unused one or whose LSA is not
greater than that of the used position before it; SPARE-REUSED at the first used position whose spare index is that of
a used position of smaller index; unused positions are compared with nothing (R149). -/
def Obligations.CommitChecksFindTheFirst : Prop :=
  (∀ (t : TableSet) (i : Nat),
    let overlaps (i : Nat) : Prop := ∃ e d j, j < i ∧ t.extents[i]? = some e ∧ t.extents[j]? = some d ∧
      e.valid = true ∧ d.valid = true ∧ e.firstLsa ≤ d.lastLsa ∧ d.firstLsa ≤ e.lastLsa
    t.overlapAt = some i ↔ overlaps i ∧ ∀ k, k < i → ¬overlaps k) ∧
  ∀ (t : TableSet) (i : Nat),
    let disordered (i : Nat) : Prop := ∃ e d, t.remap[i + 1]? = some e ∧ t.remap[i]? = some d ∧ e.used = true ∧
      (d.used = false ∨ e.lsa ≤ d.lsa)
    let reused (i : Nat) : Prop := ∃ e d j, j < i ∧ t.remap[i]? = some e ∧ t.remap[j]? = some d ∧ e.used = true ∧
      d.used = true ∧ e.spare = d.spare
    (t.remapOrderAt = some (i + 1) ↔ disordered i ∧ ∀ k, k < i → ¬disordered k) ∧ t.remapOrderAt ≠ some 0 ∧
    (t.spareReusedAt = some i ↔ reused i ∧ ∀ k, k < i → ¬reused k)

/-- A SET-DRIVE-TARGET is answered DONE at once and the target becomes the value sent; the value already held changes
nothing (R120). Target OFF answers every WAITING disk record DRIVE-FAULT in acceptance order, with no kind and no
failing LSA; with the flush done a READY drive with no clearing in progress begins the off sequence at once, and a
PARKED one goes to SPINNING-DOWN; in any other case outside FAULTED the drive stays in its state (R130, R133);
from FAULTED it leads to SPINNING-DOWN, and with the spindle reported at rest since it was commanded off (log 45) to
COOLING, which unlocks the interlock and reads the cartridge line, and to STOPPED at once where the cool-down has
expired (R121, R131, R135). Among the ready answers the DONE stands before the DRIVE-FAULTs (log 28).
Target ON starts the spindle from STOPPED where the other conditions hold (R122), and otherwise changes the target
alone (R134). -/
def Obligations.SetDriveTargetTakesTheTarget : Prop :=
  ∀ (ch : Channel) (f : OrderFrame) (s : State) (on : Bool), s.ctl.timersReadable = true →
    s.ctl.passes (.of .setDriveTarget ch f) = true → parseTarget f.words = some (.target on) →
    let answered := (s.ctl.frameTaken ch).placeAnswer ch (answerTo f .setDriveTarget .done)
    (on = s.ctl.drive.targetOn → Gives (.setDriveTarget ch f) s answered) ∧
    (on = true → s.ctl.drive.targetOn = false →
      let c := answered.modDrive fun d => { d with targetOn := true }
      (¬(s.ctl.drive.state = .stopped ∧ s.ctl.drive.cartridgePresent = true ∧ s.ctl.drive.supplyGood = true ∧
          s.ctl.drive.coolDown = none) → Gives (.setDriveTarget ch f) s c) ∧
      (s.ctl.drive.state = .stopped → s.ctl.drive.cartridgePresent = true → s.ctl.drive.supplyGood = true →
        s.ctl.drive.coolDown = none → Gives (.setDriveTarget ch f) s c.startSpindle)) ∧
    (on = false → s.ctl.drive.targetOn = true → s.ctl.sequenceSound → s.ctl.drive.state.isFaulted = false →
      let flushed (r : Record) : Bool := r.isDisk && r.state == .waiting
      let done : Prop := s.ctl.anyIn .active = false ∧ s.ctl.anyIn .lingering = false
      ∃ c : Controller, Gives (.setDriveTarget ch f) s c ∧ c.drive.targetOn = false ∧
        c.records = s.ctl.records.filter (fun r => !flushed r) ∧
        (∀ d, (c.port d).ready = (answered.port d).ready ++
          ((s.ctl.records.filter flushed).filter (·.channel == d)).map (·.answer .driveFault)) ∧
        (s.ctl.drive.state = .ready → s.ctl.drive.clearing = false → done →
          c.drive.state = .unloading ∧ c.drive.unloadIdle = false ∧ c.drive.unloadWait = some 400) ∧
        (s.ctl.drive.state = .parked → done → c.drive.state = .spinningDown ∧ c.drive.spindleOn = false) ∧
        (¬done ∨ s.ctl.drive.state = .ready ∧ s.ctl.drive.clearing = true ∨
          s.ctl.drive.state ∈ [.cooling, .stopped, .spinningUp, .loadingHeads, .unloading, .spinningDown] →
          c.drive.state = s.ctl.drive.state) ∧
        c.claims = s.ctl.claims ∧ c.tables = s.ctl.tables ∧ c.engine = s.ctl.engine ∧ c.media = s.ctl.media) ∧
    (on = false → s.ctl.drive.targetOn = true → s.ctl.drive.state.isFaulted = true → s.ctl.drive.restedOff = false →
      ∃ c : Controller, Gives (.setDriveTarget ch f) s c ∧ c.drive.targetOn = false ∧
        c.drive.state = .spinningDown ∧ c.drive.spindleOn = false) ∧
    (on = false → s.ctl.drive.targetOn = true → s.ctl.drive.state.isFaulted = true → s.ctl.drive.restedOff = true →
      ∃ c : Controller, Gives (.setDriveTarget ch f) s c ∧ c.drive.targetOn = false ∧
        c.drive.state = (if s.ctl.drive.coolDown = none then .stopped else .cooling) ∧
        c.drive.coolDown = s.ctl.drive.coolDown ∧ c.drive.interlockLocked = false ∧
        c.drive.cartridgePresent = s.ctl.drive.cartridgeLine ∧ c.drive.spindleOn = s.ctl.drive.spindleOn)

/-- A CLEAR-DEFERRED is answered DONE with the sending channel's deferred error record, which it then empties; the other
channel's is not touched. A CLEAR-SUSPECT removes the entry of its LSA, or with ALL every entry and the overflow flag,
and is answered DONE. A CLEAR-MONITOR clears DEGRADED, the consecutive count and the window's counts and starts a new
window from the active Monitor Record, and is answered DONE (R117, R161, R165). -/
def Obligations.ClearingOrdersClear : Prop :=
  ∀ (ch : Channel) (f : OrderFrame) (s : State), s.ctl.timersReadable = true →
    let c := s.ctl.frameTaken ch
    (s.ctl.passes (.of .clearDeferred ch f) = true →
      Gives (.clearDeferred ch f) s ((c.placeAnswer ch
        { answerTo f .clearDeferred .done with deferred := s.ctl.work.deferred.get ch }).setDeferred ch none)) ∧
    (∀ lsa, s.ctl.passes (.of .clearSuspect ch f) = true → parseSuspect f.words = some (.suspect lsa) →
      Gives (.clearSuspect ch f) s ((c.setMedia { s.ctl.media with
        suspects := s.ctl.media.suspects.filter (·.lsa != lsa) }).placeAnswer ch (answerTo f .clearSuspect .done))) ∧
    (s.ctl.passes (.of .clearSuspect ch f) = true → parseSuspect f.words = some .suspectAll →
      Gives (.clearSuspect ch f) s ((c.setMedia { s.ctl.media with suspects := [], suspectOverflow := false }).placeAnswer
        ch (answerTo f .clearSuspect .done))) ∧
    (s.ctl.passes (.of .clearMonitor ch f) = true → s.ctl.tables.active.monitor.w0.good = true →
      Gives (.clearMonitor ch f) s ((c.setMedia
        { s.ctl.media with
          degraded := false, consecutive := 0, counted := 0, retried := 0
          threshold := s.ctl.tables.active.monitor.threshold
          tripWindows := s.ctl.tables.active.monitor.tripWindows }).placeAnswer ch
            (answerTo f .clearMonitor .done)))

/-! Links and resets. -/

/-- The link events: link-present rising on a DETACHED link gives ATTACHED and offers LINK-ATTACHED to the other channel
(R166); a discarded frame raises the error count, stopping at 255, and leaves of the frame being received only the
marked word that cut it short (R167); the escalation timer's expiry gives ATTACHED (R168). On a link in any other state
each has no effect (logs 2, 32). -/
def Obligations.LinkEventsMoveTheLink : Prop :=
  ∀ (ch : Channel) (cause : DiscardCause) (s : State), s.ctl.timersReadable = true →
    ((s.ctl.port ch).link = .detached → Gives (.linkPresentRises ch) s
      ((s.ctl.modPort ch fun p => { p with link := .attached }).offer ch.other (.linkAttached ch))) ∧
    ((s.ctl.port ch).link ≠ .detached → Gives (.linkPresentRises ch) s s.ctl) ∧
    ((s.ctl.port ch).link ≠ .detached → Gives (.frameDiscarded ch cause) s
      (s.ctl.modPort ch fun p =>
        { p with errorCount := min (p.errorCount + 1) 255
                 inbound := match cause with
                   | .cutByMark w => [w]
                   | _ => [] })) ∧
    ((s.ctl.port ch).link = .detached → Gives (.frameDiscarded ch cause) s s.ctl) ∧
    ((s.ctl.port ch).link = .recovering → (s.ctl.port ch).escalation ≠ none →
      Gives (.escalationTimerExpiry ch) s
        (s.ctl.modPort ch fun p => { p with link := .attached, escalation := none })) ∧
    ((s.ctl.port ch).link ≠ .recovering ∨ (s.ctl.port ch).escalation = none →
      Gives (.escalationTimerExpiry ch) s s.ctl)

/-- What a RESET frame or a link fall does to its channel and leaves of the other (R173): the channel's WAITING,
CLAIM-WAIT, SYNC-WAIT, COMMIT-WAIT and DELIVERING records leave without answers, its ACTIVE record is silent, its
LINGERING ones stay; its deferred error record, its ready answers and its Notice Queue are emptied; a claim it
waited for goes on without it (R83); RESET-DONE is offered to both channels, and the other channel's records and
answers stay. A level-2 reset also gives the ACTIVE record of either channel a pending stop and sets the
recalibration-pending mark (R174), which a recalibration already under way does not clear (R88; log 41).
What a waiter's leaving makes of a claim: WANTED returns to HELD with its timer stopped, HANDING-OVER goes on to
nobody, with the same holder (R73, R83). -/
def Obligations.ResetOfAChannelClearsIt : Prop :=
  (∀ (ch : Channel) (i : Instr) (level : Nat) (s : State), s.ctl.timersReadable = true →
    s.ctl.noticesReadable .a = true → s.ctl.noticesReadable .b = true → s.ctl.sequenceSound →
    s.ctl.level3 = none ∨ i = .linkPresentFalls ch →
    (level = 1 ∧ (i = .resetLevel1 ch ∧ (s.ctl.port ch).link = .attached ∨
        i = .linkPresentFalls ch ∧ (s.ctl.port ch).link ≠ .detached) ∨
      level = 2 ∧ (i = .resetLevel1 ch ∧ (s.ctl.port ch).link = .recovering ∨
        i = .resetLevel2 ch ∧ (s.ctl.port ch).link ≠ .detached ∨
        i = .resetLevel3 ch ∧ (s.ctl.port ch).link ≠ .detached ∧ (s.ctl.channelRecord ch).w0.good = true ∧
          (s.ctl.channelRecord ch).management = false)) →
    let removed (r : Record) : Bool := r.channel == ch && r.state != .active && r.state != .lingering
    let enabled (d : Channel) : Bool := (s.ctl.channelRecord d).enables 8
    ∃ c : Controller, Gives i s c ∧
      c.records = (s.ctl.records.filter fun r => !removed r).map (fun r =>
        if r.channel = ch ∧ r.state = .active then { r with silent := true } else r) ∧
      (c.port ch).ready = [] ∧ (c.port ch).delivery = [] ∧ (c.port ch).overflow = false ∧
      (c.port ch).notices = (if enabled ch then [.resetDone level ch] else []) ∧
      (c.port ch).errorCount = (s.ctl.port ch).errorCount ∧
      (if i = .linkPresentFalls ch then (c.port ch).link = .detached ∧ (c.port ch).escalation = none
        else (c.port ch).link = .recovering ∧ (c.port ch).escalation = some 2000) ∧
      c.port ch.other = (s.ctl.port ch.other).takeNotice (enabled ch.other) (.resetDone level ch) ∧
      c.work.deferred.get ch = none ∧ c.work.deferred.get ch.other = s.ctl.work.deferred.get ch.other ∧
      c.work.commitPending = (s.ctl.work.commitPending &&
        !(s.ctl.records.any fun r => r.channel == ch && r.state == .commitWait)) ∧
      (∀ n cl, s.ctl.claimAt n = some cl → c.claimAt n = some
        (if cl.waiter = some ch ∧ (s.ctl.claimWaiter ch n).isSome = true then cl.waiterGone else cl)) ∧
      (∀ n, s.ctl.claimAt n = none → c.claimAt n = none) ∧
      c.tables = s.ctl.tables ∧ c.drive = s.ctl.drive ∧ c.media = s.ctl.media ∧ c.buffers = s.ctl.buffers ∧
      c.level3 = s.ctl.level3 ∧
      c.engine = (if level = 2 then
        { s.ctl.engine with
          recalPending := true
          work := s.ctl.engine.work.map fun w =>
            { w with
              stop := some (w.stop.getD (.level2 ch))
              phase := match w.phase with
                | .recalibrating target _ => .recalibrating target false
                | phase => phase } }
        else s.ctl.engine)) ∧
  (∀ h t, (Claim.wanted h t).waiterGone = .held h) ∧
  (∀ h w, (Claim.handingOver h w).waiterGone = .handingOver h false) ∧
  ∀ cl : Claim, cl.waiterGone.holder = cl.holder ∧ cl.waiterGone.waiter = none

/-- The taking of a level-3 reset from a channel with management: every yield timer stops, the WAITING, CLAIM-WAIT,
SYNC-WAIT and COMMIT-WAIT records of both channels are answered RESET in acceptance order, the DELIVERING records
leave without answers, and a claim that was waited for goes on without its waiter; ACTIVE and LINGERING records
stay (R84, R175). While one is in progress a RESET frame has no effect (R172).
The end of the level-3 flush, no record ACTIVE and none LINGERING: the Work List is empty with its sequence restarted
at 0 and the sweep UPWARD, both deferred error records are empty, no claim state is left, the Table Store enters
FALLBACK with reason RESET and an empty Remap Table, the window starts anew with DEGRADED clear, each Notice Queue
holds FALLBACK(RESET) and RESET-DONE(3, sender), and the staged set, the Suspect List, the ready answers, the link
states, the drive and the current cylinder are kept (R176). -/
def Obligations.LevelThreeResetBeginsAndTakesItsValues : Prop :=
  (∀ (ch : Channel) (s : State), s.ctl.timersReadable = true → (s.ctl.port ch).link ≠ .detached →
    (s.ctl.level3 ≠ none → Gives (.resetLevel1 ch) s (s.ctl.frameTaken ch) ∧
      Gives (.resetLevel2 ch) s (s.ctl.frameTaken ch) ∧ Gives (.resetLevel3 ch) s (s.ctl.frameTaken ch)) ∧
    (s.ctl.level3 = none → (s.ctl.channelRecord ch).w0.good = true → (s.ctl.channelRecord ch).management = true →
      s.ctl.sequenceSound →
      let waits (r : Record) : Bool :=
        r.state == .waiting || r.state == .claimWait || r.state == .syncWait || r.state == .commitWait
      ∃ c : Controller, Gives (.resetLevel3 ch) s c ∧ c.level3 = some ch ∧
        c.records = s.ctl.records.filter (fun r => r.state == .active || r.state == .lingering) ∧
        (∀ d, (c.port d).ready = (s.ctl.port d).ready ++
          ((s.ctl.records.filter waits).filter (·.channel == d)).map (·.answer .reset)) ∧
        (∀ d, (c.port d).notices = (s.ctl.port d).notices ∧ (c.port d).link = (s.ctl.port d).link) ∧
        (∀ n h t, s.ctl.claimAt n = some (.wanted h t) → (s.ctl.claimWaiter h.other n).isSome = true →
          c.claimAt n = some (.held h)) ∧
        (∀ n h, s.ctl.claimAt n = some (.handingOver h true) → (s.ctl.claimWaiter h.other n).isSome = true →
          c.claimAt n = some (.handingOver h false)) ∧
        (∀ n h, s.ctl.claimAt n = some (.held h) → c.claimAt n = some (.held h)) ∧
        c.work.commitPending = (s.ctl.work.commitPending && !s.ctl.anyIn .commitWait) ∧
        c.work.deferred = s.ctl.work.deferred ∧ c.tables = s.ctl.tables ∧ c.engine = s.ctl.engine ∧
        c.drive = s.ctl.drive ∧ c.media = s.ctl.media)) ∧
  ∀ (s : State) (sender : Channel), s.ctl.timersReadable = true → s.ctl.level3 = some sender →
    (s.ctl.anyIn .active = true ∨ s.ctl.anyIn .lingering = true → Gives .level3Values s s.ctl) ∧
    (s.ctl.anyIn .active = false → s.ctl.anyIn .lingering = false →
      s.ctl.tables.active.monitor.w0.good = true →
      ∃ c : Controller, Gives .level3Values s c ∧ c.level3 = none ∧ c.records = [] ∧ c.work.nextSeq = 0 ∧
        c.work.sweep = .upward ∧ c.work.commitPending = false ∧ (∀ d, c.work.deferred.get d = none) ∧
        c.freeBuffers = List.range 12 ∧ (∀ n, c.claimAt n = none) ∧
        c.tables.mode = .fallback .reset ∧ c.tables.remapUnconfirmed = true ∧
        c.tables.staged = s.ctl.tables.staged ∧ (∀ e ∈ c.tables.active.remap.toList, e.used = false) ∧
        c.tables.active.drive = s.ctl.tables.active.drive ∧ c.tables.active.monitor = s.ctl.tables.active.monitor ∧
        c.media.counted = 0 ∧ c.media.retried = 0 ∧ c.media.consecutive = 0 ∧ c.media.degraded = false ∧
        c.media.threshold = s.ctl.tables.active.monitor.threshold ∧
        c.media.tripWindows = s.ctl.tables.active.monitor.tripWindows ∧
        c.media.suspects = s.ctl.media.suspects ∧ c.media.suspectOverflow = s.ctl.media.suspectOverflow ∧
        c.engine.cylinder = s.ctl.engine.cylinder ∧ c.engine.recalPending = s.ctl.engine.recalPending ∧
        c.drive = s.ctl.drive ∧
        (∀ d, (c.port d).notices = [.fallback .reset, .resetDone 3 sender] ∧ (c.port d).overflow = false ∧
          (c.port d).delivery = [] ∧ (c.port d).ready = (s.ctl.port d).ready ∧
          (c.port d).link = (s.ctl.port d).link ∧ (c.port d).escalation = (s.ctl.port d).escalation ∧
          (c.port d).errorCount = (s.ctl.port d).errorCount))

/-- The taking of an outbound word. With words left the next one waits and the stall timer of a delivery restarts
(R169, R170). The last word ends the frame: an answer leaves the ready answers, a notice the Notice Queue; a data frame
frees the buffer of its sector and counts one sector sent; the answer of a delivery lets its record leave (R44, R57,
R169, R170). With no frame in progress nothing happens.
The stall limit abandons the head delivery: the record leaves; where a data frame had not been wholly taken its
answer becomes SHORT with kind STALLED, the first sector not taken and the number taken, flags kept; otherwise it keeps
its prepared content (R57, R170). With no stall timer running the command has no effect (log 2).
A frame that a stall, a reset of the channel or its link's fall ends stops after the word in progress: that word waits
on, and until it is taken no frame begins; with it the frame ends and nothing leaves (R169; the word in progress at a
link's fall, log 42). At the level-3 values the same holds of every frame but that of a ready answer (R176). -/
def Obligations.OutboundWordsAndStallsMoveTheDelivery : Prop :=
  (∀ (ch : Channel) (s : State) (source : FrameSource) (w next : Word) (rest : List Word),
    s.ctl.timersReadable = true →
    ((s.ctl.port ch).out = some { source := source, words := w :: next :: rest } →
      Gives (.outboundWordTaken ch) s s.ctl ∧
      Answers (.outboundWordTaken ch) s fun c =>
        (c.port ch).out = some { source := source, words := next :: rest } ∧
        (c.port ch).stall = if source = .data ∨ source = .deliveryAnswer then some 2000 else none) ∧
    ((s.ctl.port ch).out = some { source := .answer, words := [w] } → Gives (.outboundWordTaken ch) s
      (s.ctl.modPort ch fun p => { p with ready := p.ready.drop 1 })) ∧
    ((s.ctl.port ch).out = some { source := .notice, words := [w] } → Gives (.outboundWordTaken ch) s
      (s.ctl.modPort ch fun p => { p with notices := p.notices.drop 1 })) ∧
    (∀ r, (s.ctl.port ch).delivery.head?.bind s.ctl.findRecord = some r → s.ctl.sequenceSound →
      ((s.ctl.port ch).out = some { source := .data, words := [w] } → Gives (.outboundWordTaken ch) s
        (s.ctl.setRecords (s.ctl.records.map fun q =>
          if q = r then { q with buffers := q.buffers.drop 1, sent := q.sent + 1 } else q))) ∧
      ((s.ctl.port ch).out = some { source := .deliveryAnswer, words := [w] } →
        Gives (.outboundWordTaken ch) s (s.ctl.leave r.seq none))) ∧
    ((s.ctl.port ch).out = some { source := .stopped, words := [w] } →
      Gives (.outboundWordTaken ch) s s.ctl ∧
      Answers (.outboundWordTaken ch) s fun c => (c.port ch).out = if (s.ctl.port ch).link = .detached then none
        else s.ctl.nextFrame (s.ctl.port ch)) ∧
    ((s.ctl.port ch).out = none → Gives (.outboundWordTaken ch) s s.ctl)) ∧
  (∀ (ch : Channel) (s : State) (f : OutFrame) (w : Word) (rest : List Word), s.ctl.timersReadable = true →
    (s.ctl.port ch).out = some f → f.words = w :: rest →
    let stopped (c : Controller) : Prop :=
      (c.port ch).out = some { source := .stopped, words := [w] } ∧ (c.port ch).stall = none
    (f.source = .data ∨ f.source = .deliveryAnswer → (s.ctl.port ch).stall ≠ none →
      (∃ r, (s.ctl.port ch).delivery.head?.bind s.ctl.findRecord = some r ∧ r.channel = ch) →
      Answers (.stallLimit ch) s stopped) ∧
    ((s.ctl.port ch).link ≠ .detached →
      (s.ctl.level3 = none → Answers (.resetLevel1 ch) s stopped ∧ Answers (.resetLevel2 ch) s stopped) ∧
      Answers (.linkPresentFalls ch) s stopped) ∧
    (∀ sender, s.ctl.level3 = some sender → s.ctl.anyIn .active = false → s.ctl.anyIn .lingering = false →
      (f.source ≠ .answer → Answers .level3Values s stopped) ∧
      (f.source = .answer → Answers .level3Values s fun c => (c.port ch).out = some f))) ∧
  ∀ (ch : Channel) (s : State), s.ctl.timersReadable = true →
    (∀ r a, (s.ctl.port ch).stall ≠ none → (s.ctl.port ch).delivery.head?.bind s.ctl.findRecord = some r →
      r.prepared = some a →
      (r.sent < r.done → Gives (.stallLimit ch) s (s.ctl.leave r.seq (some
        { a with code := .short, kind := some .stalled, lsa := some (r.job.start + r.sent), done := r.sent }))) ∧
      (r.done ≤ r.sent → Gives (.stallLimit ch) s (s.ctl.leave r.seq (some a)))) ∧
    ((s.ctl.port ch).stall = none → Gives (.stallLimit ch) s s.ctl)

/-! The arbiter and the Transfer Engine. -/

/-- ARBITER_CHOICE with words of good parity. No choice is made while a record is ACTIVE, or in a state of the
Sequencer that is neither READY nor PARKED, or during a fault clearing, or where no record is eligible (R46, R48,
R126). In READY the chosen record that passes its re-check becomes ACTIVE under the extent number found (R52,
R59), a READ with its lowest free buffers; every other eligible record's bypass count rises by one, stopping at
15; the Engine begins its work (R43, R51, R54). In PARKED an eligible record makes the Sequencer load the heads
(R48, R125, R127). -/
def Obligations.ArbiterDispatchesTheChosenRecord : Prop :=
  ∀ (s : State), s.ctl.timersReadable = true → s.ctl.sequenceSound → s.ctl.tables.active.drive.w4.good = true →
    (∀ ch, (s.ctl.channelRecord ch).w0.good = true) →
    let eligible := s.ctl.records.filter s.ctl.eligible
    (s.ctl.anyIn .active = true ∨ eligible = [] ∨
      s.ctl.drive.state ≠ .parked ∧ (s.ctl.drive.state ≠ .ready ∨ s.ctl.drive.clearing = true) →
      Gives .arbiterChoice s s.ctl) ∧
    (∀ r sweep extent verify, s.ctl.anyIn .active = false → s.ctl.drive.state = .ready →
      s.ctl.drive.clearing = false → s.ctl.pick (some s.ctl.tables.active.drive.bypassLimit) eligible = some (r, sweep) →
      s.ctl.recheckOnce r = .pass extent verify →
      let c := s.ctl.resolve r
      Gives .arbiterChoice s (((c.setRecords (c.records.map fun o =>
        if o.seq = r.seq then
          { o with state := .active
                   extent := extent
                   buffers := match o.job with
                     | .read _ n => c.freeBuffers.take n
                     | _ => o.buffers }
        else if o ∈ eligible then { o with bypass := min (o.bypass + 1) 15 } else o)).modWork
          fun w => { w with sweep := sweep }).startWork r verify)) ∧
    (s.ctl.anyIn .active = false → s.ctl.drive.state = .parked → eligible ≠ [] →
      Gives .arbiterChoice s ((s.ctl.send .headsOn).modDrive fun d =>
        { d with state := .loadingHeads, heads := .loading
                 headLoad := some (s.ctl.tables.active.drive.headLoad * 100) }))

/-- The conditions of eligibility that belong to a record (R46, R47): WAITING or LINGERING, no COMMIT pending, no
older overlapping record of which one is writing in WAITING, LINGERING or ACTIVE, and for a READ its buffers free
and within its channel's quota.
The choice among eligible records in acceptance order (R49, R50): with a record at or above the bypass limit the
oldest such, the sweep unchanged; otherwise one of the highest class, in the sweep direction where that class has one
there and in the reversed direction otherwise, nearest in cylinders, and of the nearest the oldest. Where some record
is eligible a choice is made. Where the word of the bypass limit fails, the choice is made as though no record had
reached it. -/
def Obligations.ChoiceAmongTheEligible : Prop :=
  (∀ (c : Controller) (r : Record),
    c.eligible r = true ↔
      (r.state = .waiting ∨ r.state = .lingering) ∧ c.work.commitPending = false ∧
      (¬∃ o ∈ c.records, o.seq < r.seq ∧ (o.isWriting = true ∨ r.isWriting = true) ∧
        (o.state = .waiting ∨ o.state = .lingering ∨ o.state = .active) ∧
        ∃ a b x y, o.job.range = some (a, b) ∧ r.job.range = some (x, y) ∧ a ≤ y ∧ x ≤ b) ∧
      ∀ start n, r.job = .read start n → n ≤ c.freeBuffers.length ∧
        c.channelBuffers r.channel + n ≤ (c.channelRecord r.channel).bufferQuota) ∧
  ∀ (c : Controller) (limit : Nat) (es : List Record), (es.map (·.seq)).Pairwise (· < ·) →
    (es ≠ [] → ∃ r d, c.pick (some limit) es = some (r, d)) ∧
    ((∀ o ∈ es, o.bypass < limit) → c.pick none es = c.pick (some limit) es) ∧
    ∀ r d, c.pick (some limit) es = some (r, d) → r ∈ es ∧
      ((∃ o ∈ es, limit ≤ o.bypass) →
        limit ≤ r.bypass ∧ d = c.work.sweep ∧ ∀ o ∈ es, limit ≤ o.bypass → r.seq ≤ o.seq) ∧
      ((∀ o ∈ es, o.bypass < limit) →
        let dist (o : Record) : Nat := (c.engine.cylinder - o.cylinder) + (o.cylinder - c.engine.cylinder)
        let ahead (o : Record) : Prop := match c.work.sweep with
          | .upward => c.engine.cylinder ≤ o.cylinder
          | .downward => o.cylinder ≤ c.engine.cylinder
        (∀ o ∈ es, o.rank ≤ r.rank) ∧
        ((∃ o ∈ es, o.rank = r.rank ∧ ahead o) → d = c.work.sweep ∧ ahead r ∧
          ∀ o ∈ es, o.rank = r.rank → ahead o → dist r ≤ dist o ∧ (dist r = dist o → r.seq ≤ o.seq)) ∧
        ((∀ o ∈ es, o.rank = r.rank → ¬ahead o) → d = c.work.sweep.reverse ∧
          ∀ o ∈ es, o.rank = r.rank → dist r ≤ dist o ∧ (dist r = dist o → r.seq ≤ o.seq)))

/-- The re-check at dispatch (R52): by the extent that now contains the range, the right the function needs there, and
for a writing record in an EXCLUSIVE extent the recorded holder; a FORMAT-TRACK on a spare track needs management
and NORMAL mode. The number of the extent found replaces the recorded one, and a drain that the record leaves by
this ends where no record counts in it any more (R52, R59, R78; LeavingRecordIsAnsweredAndFreed spells the drain).
A record that fails it leaves: WAITING with REVOKED and kind REVOKED, LINGERING as a deferred error of kind
REVOKED with its start LSA; with nothing else eligible the choice ends there (R53).
The whole of a choice in READY. A failing word of the bypass limit is a table fault, and the choice is made without
the limit (R49). A failing word met at the re-check is a table fault, and the re-check starts again against the
fallback set (R52). The record that passes is dispatched; after one that fails and leaves the arbiter chooses again at
once, as ARBITER_CHOICE would from there (R53). -/
def Obligations.RecheckJudgesAtDispatch : Prop :=
  (∀ (c : Controller) (r : Record) (lo hi n : Nat) (e : ExtentEntry), r.job.range = some (lo, hi) →
    (c.extentOf (lo, hi) = .found n e →
      ((∃ g ∈ r.job.func.rights, e.hasRight r.channel g = true) ∧
          (r.isWriting = true → e.exclusive = true → (c.claimAt n).bind (·.holder) = some r.channel) →
        c.recheckOnce r = .pass (some n) e.verifyAfterWrite) ∧
      (¬((∃ g ∈ r.job.func.rights, e.hasRight r.channel g = true) ∧
          (r.isWriting = true → e.exclusive = true → (c.claimAt n).bind (·.holder) = some r.channel)) →
        c.recheckOnce r = .fail)) ∧
    (c.extentOf (lo, hi) = .notFound → c.recheckOnce r = .fail)) ∧
  (∀ (c : Controller) (r : Record), r.job.range = none → (c.channelRecord r.channel).w0.good = true →
    c.recheckOnce r =
      if (c.channelRecord r.channel).management = true ∧ c.inFallback = false then .pass none false else .fail) ∧
  (∀ (c : Controller) (r : Record),
    (r.job.range = none → c.resolve r = c) ∧
    ∀ range, r.job.range = some range →
      (∀ n e, c.extentOf range = .found n e → c.resolve r = (c.setRecords (c.records.map fun q =>
        if q.seq = r.seq then { q with extent := some n } else q)).drainFalls r) ∧
      ((∀ n e, c.extentOf range ≠ .found n e) → c.resolve r = c)) ∧
  (∀ (s : State) (r : Record) (sweep : Direction), s.ctl.timersReadable = true →
    s.ctl.tables.active.drive.w4.good = true → (∀ ch, (s.ctl.channelRecord ch).w0.good = true) →
    s.ctl.noticesReadable r.channel = true →
    s.ctl.anyIn .active = false → s.ctl.drive.state = .ready → s.ctl.drive.clearing = false →
    s.ctl.pick (some s.ctl.tables.active.drive.bypassLimit) (s.ctl.records.filter s.ctl.eligible) =
      some (r, sweep) → s.ctl.recheckOnce r = .fail →
    (r.state = .waiting →
      let c := (s.ctl.resolve r).leave r.seq (some { r.answer .revoked with kind := some .revoked })
      c.records.filter c.eligible = [] → Gives .arbiterChoice s c) ∧
    (r.state = .lingering →
      let c := (s.ctl.resolve r).failEarly r .revoked r.job.start
      c.records.filter c.eligible = [] → Gives .arbiterChoice s c)) ∧
  ∀ (s : State) (r : Record) (sweep : Direction), s.ctl.timersReadable = true → s.ctl.sequenceSound →
    (∀ ch, (s.ctl.channelRecord ch).w0.good = true) →
    s.ctl.anyIn .active = false → s.ctl.drive.state = .ready → s.ctl.drive.clearing = false →
    let limit := s.ctl.tables.active.drive
    let eligible := s.ctl.records.filter s.ctl.eligible
    let start := if limit.w4.good = true then s.ctl else s.ctl.tableFault
    start.pick (if limit.w4.good = true then some limit.bypassLimit else none) eligible = some (r, sweep) →
    let judged := if start.recheckOnce r = .fault then start.tableFault else start
    (∀ extent verify, judged.recheckOnce r = .pass extent verify →
      Gives .arbiterChoice s ((judged.resolve r).dispatched r eligible sweep extent verify)) ∧
    (judged.recheckOnce r = .fail →
      let left := if r.state = .lingering then (judged.resolve r).failEarly r .revoked r.job.start
        else (judged.resolve r).leave r.seq (some { r.answer .revoked with kind := some .revoked })
      ∀ c, Gives .arbiterChoice { s with ctl := left } c → Gives .arbiterChoice s c) ∧
    judged.recheckOnce r ≠ .fault

/-- The translation of an LSA reads the positions in ascending order and stops at the first that is unused or holds a
greater LSA, with the direct location, or holds the LSA, with the location of its spare index; a used position with a
smaller LSA does not stop it, and after the last the result is the direct location (R6, R7, R9). A failing word of a
position read ends it without a result (R10). -/
def Obligations.TranslationReadsTheRemapTable : Prop :=
  ∀ (lsa : Nat) (e : RemapEntry) (before rest : List RemapEntry),
    (∀ p ∈ before, p.good = true ∧ p.used = true ∧ p.lsa < lsa) →
    Machine.translate lsa before = some { cylinder := lsa / 48, head := lsa / 24 % 2, sector := lsa % 24 } ∧
    (e.good = true → e.used = false ∨ lsa < e.lsa → Machine.translate lsa (before ++ e :: rest) =
      some { cylinder := lsa / 48, head := lsa / 24 % 2, sector := lsa % 24 }) ∧
    (e.good = true → e.used = true → e.lsa = lsa → Machine.translate lsa (before ++ e :: rest) =
      some { cylinder := 400 + e.spare / 48, head := e.spare / 24 % 2, sector := e.spare % 24 }) ∧
    (e.good = false → Machine.translate lsa (before ++ e :: rest) = none)

/-- The Engine's way to a sector. A dispatched record takes the verify flag of its re-check and clears its marks; a
FORMAT-TRACK, which is not translated, is positioned at the cylinder it names (R86, R95). At each sector the next
LSA is translated, UNCONFIRMED is marked where remap-unconfirmed is set, and the heads are positioned at the
cylinder; a translation that fails parity is a table fault and ends the record REVOKED, TABLE-FAULT, with that LSA
(R10, R14, R86). Positioning recalibrates first where the mark is set, seeks where the cylinder differs, and
otherwise selects the head and searches, awaits the index pulse, or ends a SEEK with DONE (R87, R88, R95, R96). -/
def Obligations.SectorBeginsWithTranslationAndPositioning : Prop :=
  (∀ (c : Controller) (r : Record) (verify : Bool),
    let started := c.setWork (some
      { seq := r.seq, phase := .searching 0, purpose := .read, inHand := none, retry := 0, recovery := false
        rewrite := false, stop := none, soft := false, unconfirmed := false, verifyFlag := verify })
    (∀ cylinder head fill, r.job = .formatTrack cylinder head fill →
      c.startWork r verify = started.positionAt cylinder) ∧
    ((∀ cylinder head fill, r.job ≠ .formatTrack cylinder head fill) →
      c.startWork r verify = started.beginSector)) ∧
  ∀ (c : Controller) (w : Work) (r : Record) (loc : Location) (target : Nat), c.engine.work = some w →
    c.findRecord w.seq = some r →
    (Machine.translate (r.job.start + r.done) c.tables.active.remap.toList = some loc → c.beginSector =
      (c.setWork (some { w with
        inHand := some { lsa := r.job.start + r.done, loc := loc }, retry := 0, recovery := false, rewrite := false
        purpose := match r.job with
          | .write _ _ => .write
          | _ => .read
        unconfirmed := w.unconfirmed || c.tables.remapUnconfirmed })).positionAt loc.cylinder) ∧
    (Machine.translate (r.job.start + r.done) c.tables.active.remap.toList = none → c.beginSector =
      (c.setWork (some { w with unconfirmed := true })).tableFault.endActive .revoked (some .tableFault)
        (some (r.job.start + r.done))) ∧
    (c.engine.recalPending = true →
      c.positionAt target = (c.setWork (some { w with phase := .recalibrating target true })).send .recalibrate) ∧
    (c.engine.recalPending = false → c.engine.cylinder ≠ target →
      c.positionAt target = (c.setWork (some { w with phase := .seeking target })).send (.seek target)) ∧
    (c.engine.recalPending = false → c.engine.cylinder = target → c.positionAt target = match r.job with
      | .seek _ => c.endActive .done none none
      | .formatTrack _ head _ => (c.setWork (some { w with phase := .awaitingIndex })).send (.selectHead head)
      | _ => (c.setWork (some { w with phase := .searching 0 })).send
          (.selectHead ((w.inHand.map (·.loc.head)).getD 0)))

/-- The seek-complete (R87, R88, R95, R96, R125): at the end of the loading recalibration the cylinder is 0, the mark
is clear, and READY is entered where the target is ON or a LINGERING record is present, UNLOADING otherwise. After
the Engine's recalibration the cylinder is 0, the mark is clear where it was the cause and as it was after a
header miss, and the Engine seeks to the target cylinder; after a seek the current cylinder is the target and the
work there begins. Without seek-complete in time the record ends in a hard SEEK error with the mark set (R87, R88,
R97), and at a reread too the sector is then no counted read (log 43). The limit of a seek has no effect during a
recalibration, nor that of a recalibration during a seek (log 2). -/
def Obligations.SeeksEndInTimeOrFail : Prop :=
  ∀ (s : State), s.ctl.timersReadable = true →
    (s.ctl.drive.state = .loadingHeads → s.ctl.drive.recalWait ≠ none →
      let c := (s.ctl.modDrive fun d => { d with recalWait := none, heads := .loaded }).setEngine
        { s.ctl.engine with cylinder := 0, recalPending := false }
      (s.ctl.drive.targetOn = true ∨ s.ctl.anyIn .lingering = true → Gives .seekComplete s
        ((c.modDrive fun d => { d with state := .ready, outOfTolerance := 0 }).offerBoth (.driveState .ready))) ∧
      (s.ctl.drive.targetOn = false → s.ctl.anyIn .lingering = false → Gives .seekComplete s
        ((c.modDrive fun d => { d with state := .unloading, heads := .unloading, unloadWait := some 400
                                       unloadIdle := false, clearing := false }).send .headsOff))) ∧
    ∀ (w : Work) (r : Record) (target : Nat), s.ctl.engine.work = some w → s.ctl.findRecord w.seq = some r →
      let failed : AnswerCode × Option Nat := match r.job with
        | .formatTrack _ _ _ => (.driveFault, none)
        | .seek lsa => (.driveFault, some (lsa + r.done))
        | _ => (.short, some (r.job.start + r.done))
      (∀ forMark, w.phase = .recalibrating target forMark →
        (s.ctl.drive.state ≠ .loadingHeads → Gives .seekComplete s
          ((s.ctl.setEngine { cylinder := 0, recalPending := if forMark then false else s.ctl.engine.recalPending
                              work := some { w with phase := .seeking target } }).send (.seek target))) ∧
        Gives .recalibrationTimeout s ((s.ctl.setEngine { s.ctl.engine with recalPending := true }).endActive
          failed.1 (some .seek) failed.2) ∧
        Gives .seekTimeout s s.ctl) ∧
      (w.phase = .seeking target →
        (s.ctl.drive.state ≠ .loadingHeads →
          let there (phase : Phase) : Controller := s.ctl.setEngine
            { cylinder := target, recalPending := s.ctl.engine.recalPending, work := some { w with phase := phase } }
          Gives .seekComplete s (match r.job with
            | .seek _ => (s.ctl.setEngine { s.ctl.engine with cylinder := target }).endActive .done none none
            | .formatTrack _ head _ => (there .awaitingIndex).send (.selectHead head)
            | _ => (there (.searching 0)).send (.selectHead ((w.inHand.map (·.loc.head)).getD 0)))) ∧
        Gives .seekTimeout s ((s.ctl.setEngine
          { s.ctl.engine with cylinder := target, recalPending := true }).endActive failed.1 (some .seek) failed.2) ∧
        Gives .recalibrationTimeout s s.ctl)

/-- The header search (R4, R5, R89). The check over the two address words is compared with the recorded check word. An
unreadable header and one of another sector let the search go on; the sector sought under its own cylinder ends
it, and its data field is read at its physical address (R1), or for a WRITE written from its buffer with the check
word over it (R93) unless a stop or FALLBACK forbids it, when the record ends there (R102; log 19); under another
cylinder it is a miss, as is the second index pulse. The first miss of a sector recalibrates for one more search,
the second ends it in a hard HEADER error with its Suspect List report (R97), and at a reread too the sector is then
no counted read (log 43). The word that holds head and sector
is the free value of log 8. -/
def Obligations.HeaderSearchFindsOrMisses : Prop :=
  ∀ (s : State) (w : Work) (r : Record) (sector : Sector) (pulses head number : Nat) (cylinder check : Word),
    s.ctl.timersReadable = true → s.ctl.engine.work = some w → s.ctl.findRecord w.seq = some r →
    w.phase = .searching pulses → w.inHand = some sector →
    let read := Instr.headerRead cylinder head number check
    let good : Prop := check = checkWord [cylinder, Config.headerSectorWord head number]
    let sought : Prop := head = sector.loc.head ∧ number = sector.loc.sector
    let reading (phase : Phase) : Controller :=
      (s.ctl.setWork (some { w with phase := phase })).send (.readField sector.loc)
    let missed (c : Controller) : Controller :=
      if w.recovery = true then (c.reportSuspect (r.job.start + r.done) .header r.channel).hardError .header
      else (c.setWork (some
        { w with recovery := true, phase := .recalibrating sector.loc.cylinder false })).send .recalibrate
    (¬good ∨ ¬sought → Gives read s s.ctl) ∧
    (good → sought →
      (cylinder.toNat ≠ sector.loc.cylinder → Gives read s (missed s.ctl)) ∧
      (cylinder.toNat = sector.loc.cylinder →
        (w.purpose = .read → Gives read s (reading .reading)) ∧
        (w.purpose = .reread → Gives read s (reading .rereading)) ∧
        (w.purpose = .write →
          (∀ b, s.ctl.inFallback = false → w.stop ≠ some .fallback → r.buffers[r.done]? = some b → Gives read s
            ((s.ctl.setWork (some { w with phase := .writing })).send
              (.writeField sector.loc (s.ctl.bufferWords b) (checkWord (s.ctl.bufferWords b))))) ∧
          (w.stop = some .fallback ∨ s.ctl.inFallback = true → Gives read s
            (s.ctl.endByStop (w.stop.getD .fallback)))))) ∧
    (∀ period lock, s.ctl.drive.state = .ready →
      let c := s.ctl.modDrive fun d => d.pulse period
      c.drive.outOfTolerance < 2 →
      (pulses = 0 → Gives (.indexPulse period lock) s (c.setWork (some { w with phase := .searching 1 }))) ∧
      (0 < pulses → Gives (.indexPulse period lock) s (missed c)))

/-- A data field read (R90, R91, R92). Its words stand in the sector's buffer of a READ. A match completes the sector,
with one counted read, retried and the SOFT mark from the first reread on, and a SOFT suspect report from the
second; a mismatch is read again while the retry number is below the retry limit, and at the limit it is a
DATA-CHECK report, one retried counted read and a hard DATA-CHECK error. A retry limit that fails parity is a
table fault, one retried counted read, and the stop, a level-2 stop taken before it giving the code (R102; log
36). The suspect report of a sector end comes before its counted read (the model's choice: log 49). A field that no
reading awaits has no effect (log 2). -/
def Obligations.DataFieldReadCompletesRetriesOrFails : Prop :=
  ∀ (s : State) (w : Work) (r : Record) (words : List Word) (check : Word), s.ctl.timersReadable = true →
    s.ctl.engine.work = some w → s.ctl.findRecord w.seq = some r →
    (w.phase ≠ .reading → Gives (.dataFieldRead words check) s s.ctl) ∧
    (w.phase = .reading →
      let stored : Controller := match r.job, r.buffers[r.done]? with
        | .read _ _, some b => s.ctl.setBuffer b words
        | _, _ => s.ctl
      let lsa := r.job.start + r.done
      let marked (c : Controller) (soft : Bool) : Controller := c.setEngine
        { c.engine with work := c.engine.work.map fun x => { x with soft := x.soft || soft } }
      let limit := s.ctl.tables.active.drive.retryLimit
      (check = checkWord words →
        (w.retry = 0 → Gives (.dataFieldRead words check) s (stored.countRead false).completeSector) ∧
        (w.retry = 1 →
          Gives (.dataFieldRead words check) s ((marked stored true).countRead true).completeSector) ∧
        (2 ≤ w.retry → Gives (.dataFieldRead words check) s
          ((marked (stored.reportSuspect lsa .soft r.channel) true).countRead true).completeSector)) ∧
      (check ≠ checkWord words →
        (s.ctl.tables.active.drive.w4.good = true → w.retry < limit → Gives (.dataFieldRead words check) s
          (stored.setWork (some { w with retry := w.retry + 1, phase := .searching 0, purpose := .read }))) ∧
        (s.ctl.tables.active.drive.w4.good = true → limit ≤ w.retry → Gives (.dataFieldRead words check) s
          (((stored.reportSuspect lsa .dataCheck r.channel).countRead true).hardError .dataCheck)) ∧
        (s.ctl.tables.active.drive.w4.good = false → Gives (.dataFieldRead words check) s
          ((stored.tableFault.countRead true).endByStop (w.stop.getD .fallback)))))

/-- A data field written completes its sector, or with the verify flag is searched for again and reread (R93, R94).
The reread agrees where every word equals the buffer's and the recorded check word is the check over the words
read: the sector is complete, with the SOFT mark after a rewrite. A first mismatch writes the sector again, unless
a stop by a fallback entry or FALLBACK forbids it (R102); a second one is a WRITE-VERIFY report and a hard error.
A report of a write or a reread that is not under way has no effect (log 2). -/
def Obligations.WrittenFieldCompletesOrIsReread : Prop :=
  ∀ (s : State) (w : Work) (r : Record) (b : Nat) (words : List Word) (check : Word), s.ctl.timersReadable = true →
    s.ctl.engine.work = some w → s.ctl.findRecord w.seq = some r → r.buffers[r.done]? = some b →
    (w.phase = .writing →
      (w.verifyFlag = false → Gives .dataFieldWritten s s.ctl.completeSector) ∧
      (w.verifyFlag = true → Gives .dataFieldWritten s
        (s.ctl.setWork (some { w with phase := .searching 0, purpose := .reread })))) ∧
    (w.phase ≠ .writing → Gives .dataFieldWritten s s.ctl) ∧
    (w.phase = .rereading →
      let agrees := words = s.ctl.bufferWords b ∧ check = checkWord words
      (agrees → Gives (.verifyRereadDone words check) s
        (s.ctl.setWork (some { w with soft := w.soft || w.rewrite })).completeSector) ∧
      (¬agrees →
        (w.rewrite = true → Gives (.verifyRereadDone words check) s
          ((s.ctl.reportSuspect (r.job.start + r.done) .writeVerify r.channel).hardError .writeVerify)) ∧
        (w.rewrite = false → s.ctl.inFallback = false → w.stop ≠ some .fallback →
          Gives (.verifyRereadDone words check) s
            (s.ctl.setWork (some { w with rewrite := true, phase := .searching 0, purpose := .write }))) ∧
        (w.rewrite = false → s.ctl.inFallback = true ∨ w.stop = some .fallback →
          Gives (.verifyRereadDone words check) s (s.ctl.endByStop (w.stop.getD .fallback))))) ∧
    (w.phase ≠ .rereading → Gives (.verifyRereadDone words check) s s.ctl)

/-- The format of a track (R95, R102): at the index pulse slot 0, and at the end of each slot the next, is written
with its physical address and the check over the two header words, 256 copies of the fill word and the check over
them, unless a stop or FALLBACK forbids it; after slot 23 the record ends DONE. A stop that comes before slot 0
ends the record at the index pulse (log 18). The second header word, which no rule lays out, is the free value of
log 8. The report of a slot that is not being written has no effect (log 2). -/
def Obligations.FormatWritesSlotAfterSlot : Prop :=
  ∀ (s : State) (w : Work) (r : Record) (cylinder head : Nat) (fill : Word), s.ctl.timersReadable = true →
    s.ctl.engine.work = some w → s.ctl.findRecord w.seq = some r → r.job = .formatTrack cylinder head fill →
    let begins (i : Instr) (c : Controller) (slot : Nat) : Prop :=
      (w.stop = none → c.inFallback = false →
        let header := [BitVec.ofNat 16 cylinder, Config.headerSectorWord head slot]
        Gives i s ((c.setWork (some { w with phase := .formatting slot })).send (.writeSlot
          { cylinder := cylinder, head := head, sector := slot } header (checkWord header) fill
          (checkWord (List.replicate 256 fill))))) ∧
      (w.stop ≠ none ∨ c.inFallback = true → Gives i s (c.endByStop (w.stop.getD .fallback)))
    (∀ slot, w.phase = .formatting slot →
      (slot < 23 → begins .formatSlotWritten s.ctl (slot + 1)) ∧
      (23 ≤ slot → Gives .formatSlotWritten s (s.ctl.endActive .done none none))) ∧
    ((∀ slot, w.phase ≠ .formatting slot) → Gives .formatSlotWritten s s.ctl) ∧
    (∀ period lock, w.phase = .awaitingIndex → s.ctl.drive.state = .ready →
      let c := s.ctl.modDrive fun d => d.pulse period
      c.drive.outOfTolerance < 2 → begins (.indexPulse period lock) c 0)

/-- A write fault raises the line. While a data field or a slot of a logical track is being written its sector is
reported TORN and the record ends in a hard WRITE-FAULT error; a slot of a spare track has no LSA to report; with
nothing being written the line alone moves (R93, R95, R97, R130), and a fault clearing starts at the end of the
step (log 16). -/
def Obligations.WriteFaultTearsWhatIsWritten : Prop :=
  ∀ s : State, s.ctl.timersReadable = true →
    let c := s.ctl.modDrive fun d => { d with writeFaultLine := true }
    (s.ctl.engine.work = none → Gives .writeFault s c) ∧
    ∀ (w : Work) (r : Record), s.ctl.engine.work = some w → s.ctl.findRecord w.seq = some r →
      (w.phase = .writing → Gives .writeFault s
        ((c.reportSuspect (r.job.start + r.done) .torn r.channel).hardError .writeFault)) ∧
      (∀ slot cylinder head fill, w.phase = .formatting slot → r.job = .formatTrack cylinder head fill →
        (cylinder < 400 → Gives .writeFault s
          ((c.reportSuspect (cylinder * 48 + head * 24 + slot) .torn r.channel).hardError .writeFault)) ∧
        (400 ≤ cylinder → Gives .writeFault s (c.hardError .writeFault))) ∧
      (w.phase ≠ .writing → (∀ slot, w.phase ≠ .formatting slot) → Gives .writeFault s c)

/-- A hard error ends the ACTIVE record at the sector in hand: SHORT for READ, WRITE and VERIFY, DRIVE-FAULT for SEEK
and FORMAT-TRACK, with its kind, and with the first sector not complete except for a FORMAT-TRACK (R97). A pending
stop ends it with REVOKED and TABLE-FAULT, or with ABORTED (R102). A complete sector counts as done; at the
boundary the record ends DONE after its last sector, by the pending stop where there is one, and otherwise begins
its next sector (R86, R103). -/
def Obligations.SectorBoundariesHardErrorsAndStops : Prop :=
  ∀ (c : Controller) (w : Work) (r : Record) (kind : ErrorKind), c.engine.work = some w →
    c.findRecord w.seq = some r →
    let next := c.modRecord w.seq fun q => { q with done := q.done + 1 }
    (r.job.count ≠ 0 → c.hardError kind = c.endActive .short (some kind) (some (r.job.start + r.done)) ∧
      c.endByStop .fallback = c.endActive .revoked (some .tableFault) (some (r.job.start + r.done))) ∧
    (∀ lsa, r.job = .seek lsa → c.hardError kind = c.endActive .driveFault (some kind) (some (lsa + r.done))) ∧
    (∀ cylinder head fill, r.job = .formatTrack cylinder head fill →
      c.hardError kind = c.endActive .driveFault (some kind) none ∧
      c.endByStop .fallback = c.endActive .revoked (some .tableFault) none) ∧
    (∀ sender, c.endByStop (.level2 sender) = c.endActive .aborted none none) ∧
    (r.job.count ≤ r.done + 1 → c.completeSector = next.endActive .done none none) ∧
    (r.done + 1 < r.job.count →
      (∀ st, w.stop = some st → c.completeSector = next.endByStop st) ∧
      (w.stop = none → c.completeSector = next.beginSector))

/-- What the Work List does when the ACTIVE period ends (R56, R97, R98, R99, R109, R110, R175). An early-marked write
that is written leaves with no answer; one that fails becomes a deferred error at its first sector not complete, with
its own kind after a hard error or an abort and REVOKED otherwise. A silent record leaves unanswered. A READ during a
level-3 reset is answered RESET, with its sectors done and flags (log 25). A READ that ends DONE or SHORT with sectors
done becomes DELIVERING with the buffers of those sectors and its prepared answer, at the tail of its Delivery Queue.
Every other record is answered with the outcome.
A failed early-marked write sets its channel's deferred error record, or raises its further count, stopping at 255;
DEFERRED-ERROR with its tag is offered to the channel; and the record leaves with no answer (R108, R109, R118). -/
def Obligations.ActivePeriodEnds : Prop :=
  (∀ (c : Controller) (w : Work) (r : Record) (code : AnswerCode) (kind : Option ErrorKind) (lsa : Option Nat),
    c.engine.work = some w → c.findRecord w.seq = some r →
    let d := c.setWork none
    let answer : Answer :=
      { r.answer code with done := r.done, lsa := lsa, kind := kind, soft := w.soft, unconfirmed := w.unconfirmed }
    (r.early = true →
      (code = .done → c.endActive code kind lsa = d.leave r.seq none) ∧
      (∀ k, code = .short ∨ code = .driveFault → kind = some k →
        c.endActive code kind lsa = d.failEarly r k (r.job.start + r.done)) ∧
      (code = .revoked ∨ code = .aborted →
        c.endActive code kind lsa = d.failEarly r .revoked (r.job.start + r.done))) ∧
    (r.early = false → r.silent = true → c.endActive code kind lsa = d.leave r.seq none) ∧
    (r.early = false → r.silent = false →
      (r.job.func = .read → c.level3 ≠ none → c.endActive code kind lsa = d.leave r.seq (some
        { r.answer .reset with done := r.done, soft := w.soft, unconfirmed := w.unconfirmed })) ∧
      (r.job.func = .read → c.level3 = none → code = .done ∨ code = .short → 0 < r.done →
        c.endActive code kind lsa = (d.modRecord r.seq fun q =>
          { q with state := .delivering, buffers := q.buffers.take q.done, prepared := some answer, sent := 0
                   firstError := kind.map fun k => { lsa := lsa, kind := k } }).modPort r.channel
            fun p => { p with delivery := p.delivery ++ [r.seq] }) ∧
      (r.job.func ≠ .read ∨ c.level3 = none ∧ (code ≠ .done ∧ code ≠ .short ∨ r.done = 0) →
        c.endActive code kind lsa = d.leave r.seq (some answer)))) ∧
  ∀ (c : Controller) (r : Record) (kind : ErrorKind) (lsa : Nat),
    (c.work.deferred.get r.channel = none → c.failEarly r kind lsa =
      ((c.setDeferred r.channel (some { tag := r.tag, lsa := lsa, kind := kind, further := 0 })).offer r.channel
        (.deferredError r.tag)).leave r.seq none) ∧
    (∀ d, c.work.deferred.get r.channel = some d → c.failEarly r kind lsa =
      ((c.setDeferred r.channel (some { d with further := min (d.further + 1) 255 })).offer r.channel
        (.deferredError r.tag)).leave r.seq none)

/-- Media Watch. A suspect report updates the entry of its LSA, whose count stops at 15 and whose kind a SOFT report
replaces only where it is SOFT; or it adds an entry at the end, offered to both channels; or with 8 entries sets the
overflow flag (R162, R163, R164). A counted read moves the window's counts; the 64th ends it: with the retried count
above the threshold the consecutive count rises, and at the trip windows it returns to 0 and DEGRADED is latched with
MEDIA-DEGRADING to both channels; otherwise it is 0; and a new window starts from the active Monitor Record, or after a
table fault from the defaults (R140, R158, R159, R160). -/
def Obligations.MediaWatchCountsAndLists : Prop :=
  (∀ (c : Controller) (lsa : Nat) (kind : SuspectKind) (ch : Channel), let m := c.media
    ((∃ e ∈ m.suspects, e.lsa = lsa) → c.reportSuspect lsa kind ch = c.setMedia { m with
      suspects := m.suspects.map fun e => if e.lsa = lsa then
        { e with kind := if kind = .soft ∧ e.kind ≠ .soft then e.kind else kind
                 count := min (e.count + 1) 15, channel := ch } else e }) ∧
    ((∀ e ∈ m.suspects, e.lsa ≠ lsa) →
      (m.suspects.length < 8 → c.reportSuspect lsa kind ch = (c.setMedia { m with
        suspects := m.suspects ++ [{ lsa := lsa, kind := kind, count := 1, channel := ch }] }).offerBoth
          (.suspectAdded lsa)) ∧
      (8 ≤ m.suspects.length → c.reportSuspect lsa kind ch = c.setMedia { m with suspectOverflow := true }))) ∧
  (∀ c : Controller,
    (c.tables.active.monitor.w0.good = true → c.startWindow = c.setMedia
      { c.media with counted := 0, retried := 0, threshold := c.tables.active.monitor.threshold
                     tripWindows := c.tables.active.monitor.tripWindows }) ∧
    (c.tables.active.monitor.w0.good = false → c.startWindow = c.tableFault.setMedia
      { c.media with counted := 0, retried := 0, threshold := 4, tripWindows := 3 })) ∧
  ∀ (c : Controller) (retried : Bool), let m := c.media
    let reads := if retried then m.retried + 1 else m.retried
    (m.counted + 1 < 64 →
      c.countRead retried = c.setMedia { m with counted := m.counted + 1, retried := reads }) ∧
    (64 ≤ m.counted + 1 →
      (reads ≤ m.threshold → c.countRead retried = (c.setMedia { m with consecutive := 0 }).startWindow) ∧
      (m.threshold < reads → m.consecutive + 1 < m.tripWindows →
        c.countRead retried = (c.setMedia { m with consecutive := m.consecutive + 1 }).startWindow) ∧
      (m.threshold < reads → m.tripWindows ≤ m.consecutive + 1 → c.countRead retried =
        ((c.setMedia { m with consecutive := 0, degraded := true }).offerBoth .mediaDegrading).startWindow))

/-! Fallback entry and the Drive Sequencer. -/

/-- A fallback entry (R153, R154): mode and reason; the Remap Table kept only after a TABLE-FAULT with every remap
word good, otherwise emptied with remap-unconfirmed set; the Channel Records and the Extent Table in their
fallback forms; the Drive and Monitor Records and the staged set as they were; no claim left; a pending stop for
the ACTIVE record; every record but waiting CLAIMs kept. Each claim it drops gives CLAIM-LOST to its holder and
REVOKED to its waiter's CLAIM, which leaves, in ascending extent number, before FALLBACK is offered (R81, R82);
with reason RESET the claims cease with neither (R84). A claim that a commit drops gives CLAIM-LOST and REVOKED
likewise (R81). -/
def Obligations.FallbackEntryTakesTheForms : Prop :=
  (∀ (c : Controller) (reason : FallbackReason), c.sequenceSound →
    let d := c.fallbackEntry reason
    let keep : Bool := reason == .tableFault && c.tables.active.remap.toList.all fun e => e.w0.good && e.w1.good
    let dropped := if reason = .reset then [] else List.range 16
    let revoked := c.waitersOn dropped
    d.tables.mode = .fallback reason ∧ d.tables.staged = c.tables.staged ∧
    (∀ ch, d.channelRecord ch = fallbackChannel) ∧ d.tables.active.extents = fallbackExtents ∧
    d.tables.active.remap = (if keep then c.tables.active.remap else Vector.replicate 32 unusedRemap) ∧
    d.tables.remapUnconfirmed = (!keep || c.tables.remapUnconfirmed) ∧
    d.tables.active.drive = c.tables.active.drive ∧ d.tables.active.monitor = c.tables.active.monitor ∧
    (∀ n, d.claimAt n = none) ∧
    d.engine.work = c.engine.work.map (fun w => { w with stop := some (w.stop.getD .fallback) }) ∧
    (∀ r ∈ c.records, r.state ≠ .claimWait → r ∈ d.records) ∧ (∀ r ∈ d.records, r ∈ c.records) ∧
    d.drive = c.drive ∧ d.media = c.media ∧ d.work.deferred = c.work.deferred ∧ d.level3 = c.level3 ∧
    d.records = c.records.filter (fun r => !revoked.contains r) ∧
    ∀ ch, (d.port ch).ready = (c.port ch).ready ++ (revoked.filter (·.channel == ch)).map (·.answer .revoked) ∧
      let offered := (c.heldBy ch dropped).map Notice.claimLost ++ [Notice.fallback reason]
      let p := offered.foldl (fun (p : Port) n => p.takeNotice true n) (c.port ch)
      (d.port ch).notices = p.notices ∧ (d.port ch).overflow = p.overflow) ∧
  ∀ (c : Controller) (n : Nat) (cl : Claim) (h : Channel), c.claimAt n = some cl → cl.holder = some h →
    (cl.waiter = none → c.dropClaim Controller.offer n = (c.setClaim n none).offer h (.claimLost n)) ∧
    (cl.waiter = some h.other → c.dropClaim Controller.offer n =
      ((c.setClaim n none).offer h (.claimLost n)).answerWaiter h.other n .revoked)

/-- The way up (R121, R122, R125, R129, R135). The cool-down's expiry in COOLING enters STOPPED, and in STOPPED, where
a start waits for it, it is an event at which the spindle may start (log 45); the return of the supply and the
insertion of a cartridge are the other events at which STOPPED may start; an insertion seen while the interlock is
unlocked enters FALLBACK with PACK-CHANGED first, and while it is locked the line alone moves (log 24). The start
locks the interlock, commands the spindle on and enters SPINNING-UP with the spin-up limit; where the word of that
limit fails parity a table fault comes first and the timer takes its default of 60 s (R136). The head-load timer's
expiry commands the loading recalibration with its limit of 800 ms. The expiry of a cool-down or a head-load timer
that does not run has no effect (log 2). -/
def Obligations.DriveComesUp : Prop :=
  ∀ s : State, s.ctl.timersReadable = true →
    let limit := s.ctl.tables.active.drive.w0
    let started (c : Controller) : Controller :=
      if c.drive.state = .stopped ∧ c.drive.targetOn = true ∧ c.drive.cartridgePresent = true ∧
          c.drive.supplyGood = true ∧ c.drive.coolDown = none then
        let sent := (c.send .lockInterlock).send .spindleOn
        (if limit.good = true then sent else sent.tableFault).modDrive fun d =>
          { d with
            state := .spinningUp, interlockLocked := true, spindleOn := true, atRest := false, restedOff := false
            inTolerance := 0, outOfTolerance := 0, pulseSeen := false, alreadyCounted := false
            spinUp := some (if limit.good = true then limit.value.toNat * 100 else 60000) }
      else c
    (s.ctl.drive.coolDown ≠ none → s.ctl.drive.state = .cooling → Gives .coolDownExpiry s (started
      ((s.ctl.modDrive fun d => { d with coolDown := none, state := .stopped }).offerBoth (.driveState .stopped)))) ∧
    (s.ctl.drive.coolDown ≠ none → s.ctl.drive.state ≠ .cooling →
      Gives .coolDownExpiry s (started (s.ctl.modDrive fun d => { d with coolDown := none }))) ∧
    (s.ctl.drive.coolDown = none → Gives .coolDownExpiry s s.ctl) ∧
    Gives .supplyReturn s (started (s.ctl.modDrive fun d => { d with supplyGood := true })) ∧
    (s.ctl.drive.interlockLocked = true →
      Gives .cartridgeInserted s (s.ctl.modDrive fun d => { d with cartridgeLine := true }) ∧
      Gives .cartridgeRemoved s (s.ctl.modDrive fun d => { d with cartridgeLine := false })) ∧
    (s.ctl.drive.interlockLocked = false →
      (s.ctl.drive.cartridgePresent = false → Gives .cartridgeInserted s (started
        ((s.ctl.modDrive fun d => { d with cartridgeLine := true, cartridgePresent := true }).fallbackEntry
          .packChanged))) ∧
      (s.ctl.drive.cartridgePresent = true → Gives .cartridgeInserted s (started
        (s.ctl.modDrive fun d => { d with cartridgeLine := true }))) ∧
      Gives .cartridgeRemoved s
        (s.ctl.modDrive fun d => { d with cartridgeLine := false, cartridgePresent := false })) ∧
    (s.ctl.drive.state = .loadingHeads → s.ctl.drive.headLoad ≠ none → Gives .headLoadExpiry s
      ((s.ctl.modDrive fun d => { d with headLoad := none, recalWait := some 800 }).send .recalibrate)) ∧
    (s.ctl.drive.state ≠ .loadingHeads ∨ s.ctl.drive.headLoad = none → Gives .headLoadExpiry s s.ctl)

/-- The way down (R121, R127, R131, R133, R134, R135, R137). The idle expiry in READY commands the heads off and
enters UNLOADING; so does the off sequence in READY once the flush is done; a complete unload enters PARKED, or
with the target OFF and the flush done SPINNING-DOWN (log 37); PARKED, and FAULTED with no report of rest since
the spindle was commanded off, go to SPINNING-DOWN on the off sequence. The spindle at rest, reported while it is
commanded on, is at rest and no more; reported after it was commanded off, it starts the cool-down, from each
report (log 45), with the default of 20 s after a table fault where its word fails parity (R136), and passes
SPINNING-DOWN to COOLING, where the interlock unlocks, DRIVE-STATE(COOLING) is offered and the cartridge line is
read, in that order (log 28); FAULTED with such a report goes to COOLING on the off sequence, and to STOPPED at
once where the cool-down has expired. An idle expiry or an unload's end that nothing awaits has no effect (log 2). -/
def Obligations.DriveGoesDown : Prop :=
  ∀ s : State, s.ctl.timersReadable = true →
    let unloading (idle : Bool) : Controller := (s.ctl.modDrive fun d =>
      { d with state := .unloading, heads := .unloading, unloadWait := some 400, unloadIdle := idle
               clearing := false }).send .headsOff
    let down (c : Controller) : Controller :=
      (if c.drive.spindleOn = true then (c.modDrive fun d => { d with spindleOn := false }).send .spindleOff
        else c).modDrive fun d => { d with state := .spinningDown }
    let flushed := s.ctl.anyIn .active = false ∧ s.ctl.anyIn .lingering = false
    let cooling (c : Controller) : Controller :=
      let open' := ((c.modDrive fun d => { d with state := .cooling, interlockLocked := false }).send
        .unlockInterlock).offerBoth (.driveState .cooling)
      if s.ctl.drive.cartridgeLine = s.ctl.drive.cartridgePresent then open'
      else if s.ctl.drive.cartridgeLine = true then
        (open'.modDrive fun d => { d with cartridgePresent := true }).fallbackEntry .packChanged
      else open'.modDrive fun d => { d with cartridgePresent := false }
    (s.ctl.drive.state = .ready → s.ctl.drive.idle ≠ none → Gives .idleExpiry s (unloading true)) ∧
    (s.ctl.drive.state ≠ .ready ∨ s.ctl.drive.idle = none → Gives .idleExpiry s s.ctl) ∧
    (s.ctl.drive.targetOn = false → flushed → s.ctl.drive.state = .ready → s.ctl.drive.clearing = false →
      Gives .targetOffFlushDone s (unloading false)) ∧
    (s.ctl.drive.targetOn = false → flushed → s.ctl.drive.state = .parked →
      Gives .targetOffFlushDone s (down s.ctl)) ∧
    (∀ f, s.ctl.drive.targetOn = false → s.ctl.drive.state = .faulted f →
      (s.ctl.drive.restedOff = false → Gives .targetOffFlushDone s (down s.ctl)) ∧
      (s.ctl.drive.restedOff = true →
        (s.ctl.drive.coolDown ≠ none → Gives .targetOffFlushDone s (cooling s.ctl)) ∧
        (s.ctl.drive.coolDown = none → Gives .targetOffFlushDone s
          (((cooling s.ctl).modDrive fun d => { d with state := .stopped }).offerBoth (.driveState .stopped))))) ∧
    (s.ctl.drive.targetOn = true → Gives .targetOffFlushDone s s.ctl) ∧
    (s.ctl.drive.state = .unloading → s.ctl.drive.unloadWait ≠ none →
      let c := s.ctl.modDrive fun d => { d with unloadWait := none, heads := .unloaded }
      (s.ctl.drive.targetOn = false ∧ flushed → Gives .unloadComplete s (down c)) ∧
      (¬(s.ctl.drive.targetOn = false ∧ flushed) → Gives .unloadComplete s
        ((c.modDrive fun d => { d with state := .parked }).offerBoth (.driveState .parked)))) ∧
    (s.ctl.drive.state ≠ .unloading ∨ s.ctl.drive.unloadWait = none → Gives .unloadComplete s s.ctl) ∧
    (s.ctl.drive.spindleOn = false →
      let time := s.ctl.tables.active.drive.w1
      let c := (if time.good = true then s.ctl else s.ctl.tableFault).modDrive fun d =>
        { d with atRest := true, restedOff := true, pulseSeen := false, alreadyCounted := false
                 coolDown := some (if time.good = true then time.value.toNat * 100 else 20000) }
      (s.ctl.drive.state ≠ .spinningDown → Gives .spindleAtRest s c) ∧
      (s.ctl.drive.state = .spinningDown → Gives .spindleAtRest s (cooling c))) ∧
    (s.ctl.drive.spindleOn = true → Gives .spindleAtRest s
      (s.ctl.modDrive fun d => { d with atRest := true, pulseSeen := false, alreadyCounted := false }))

/-- An index pulse and a missing pulse (R123). The first pulse starts the measurement, a pulse after a missing-pulse
count starts the next revolution, any other ends a revolution, in tolerance from 24.5 to 25.5 ms; 25.5 ms without
a pulse is one out of tolerance; the two counts move and stop at 8 and 2, in SPINNING-DOWN and FAULTED too (log
12). At an out-of-tolerance count of 2 in LOADING-HEADS, READY, UNLOADING or PARKED a speed fault aborts the
ACTIVE record with kind SPEED, retracts the heads and takes the drive back to SPINNING-UP (R100, R128). In
SPINNING-UP a pulse at which the in-tolerance count is 8 and the separator reports lock loads the heads, or with
the target OFF and no LINGERING record turns the spindle off (R124). What else a pulse is to an ACTIVE record,
HeaderSearchFindsOrMisses and FormatWritesSlotAfterSlot say.
A spin-up limit or a head load delay whose word fails parity is a table fault, and its timer takes the default, 60 s
or 1.5 s (R136). -/
def Obligations.PulsesJudgeRevolutions : Prop :=
  (∀ (s : State) (period : Nat) (lock : Bool), s.ctl.timersReadable = true → s.ctl.drive.atRest = false →
    let d := s.ctl.drive
    let limit := s.ctl.tables.active.drive.w0
    let bad : Sequencer := { d with inTolerance := 0, outOfTolerance := min (d.outOfTolerance + 1) 2 }
    let pulsed : Sequencer :=
      if d.pulseSeen = false then { d with pulseSeen := true }
      else if d.alreadyCounted = true then { d with alreadyCounted := false }
      else if 24500 ≤ period ∧ period ≤ 25500 then
        { d with inTolerance := min (d.inTolerance + 1) 8, outOfTolerance := 0 }
      else bad
    let fault (e : Sequencer) : Prop := d.state ∈ [.loadingHeads, .ready, .unloading, .parked] ∧ 2 ≤ e.outOfTolerance
    let locked (e : Sequencer) : Prop := d.state = .spinningUp ∧ lock = true ∧ 8 ≤ e.inTolerance
    let with' (e : Sequencer) : Controller := s.ctl.modDrive fun _ => e
    let faulted (e : Sequencer) : Controller :=
      let aborted := (with' e).abort .speed
      let retracted := if d.heads = .loaded ∨ d.heads = .loading then aborted.send .emergencyUnload else aborted
      ((if limit.good = true then retracted else retracted.tableFault).modDrive fun x =>
        { x with state := .spinningUp, heads := .unloaded, clearing := false, headLoad := none, recalWait := none
                 unloadWait := none, inTolerance := 0, outOfTolerance := 0
                 spinUp := some (if limit.good = true then limit.value.toNat * 100 else 60000) }).offerBoth
        (.driveState .spinningUp)
    (fault pulsed → Gives (.indexPulse period lock) s (faulted pulsed)) ∧
    (s.ctl.engine.work = none →
      (¬fault pulsed → ¬locked pulsed → Gives (.indexPulse period lock) s (with' pulsed)) ∧
      (locked pulsed → d.targetOn = true ∨ s.ctl.anyIn .lingering = true → Gives (.indexPulse period lock) s
        (((with' pulsed).send .headsOn).modDrive fun x =>
          { x with spinUp := none, state := .loadingHeads, heads := .loading
                   headLoad := some (s.ctl.tables.active.drive.headLoad * 100) })) ∧
      (locked pulsed → d.targetOn = false → s.ctl.anyIn .lingering = false → d.spindleOn = true →
        Gives (.indexPulse period lock) s (((with' pulsed).send .spindleOff).modDrive fun x =>
          { x with spinUp := none, spindleOn := false, state := .spinningDown }))) ∧
    (d.pulseSeen = false → ¬fault d → Gives .missingPulse s s.ctl) ∧
    (d.pulseSeen = true →
      (¬fault bad → Gives .missingPulse s (with' { bad with alreadyCounted := true })) ∧
      (fault bad → Gives .missingPulse s (faulted { bad with alreadyCounted := true })))) ∧
  ∀ c : Controller,
    (c.tables.active.drive.w3.good = true → c.enterLoading = (c.send .headsOn).modDrive fun x =>
      { x with state := .loadingHeads, heads := .loading
               headLoad := some (c.tables.active.drive.headLoad * 100) }) ∧
    (c.tables.active.drive.w3.good = false → c.enterLoading = (c.send .headsOn).tableFault.modDrive fun x =>
      { x with state := .loadingHeads, heads := .loading, headLoad := some 1500 })

/-- FAULTED is entered by the spin-up limit, by a loading recalibration with no seek-complete in time, and by the
third fault-clear that finds the line still raised: DRIVE-STATE(FAULTED) is offered, each WAITING disk record is
answered DRIVE-FAULT and each LINGERING one becomes a deferred error of the fault's kind, in acceptance order;
with the target already OFF it is left at once after these steps, for SPINNING-DOWN, or with the spindle reported
at rest since it was commanded off (log 45) for COOLING, where DRIVE-STATE(COOLING) is offered before the
cartridge line is read (log 28), and, where the cool-down has expired, STOPPED (R124, R125, R130, R131). A
clearing whose line is down ends in READY, where with the target OFF and the flush done the off sequence begins
(R133), and one still raised below three sends the next fault-clear (R130). The spin-up limit, the limit of the
loading recalibration and the fault-clear wait have no effect while they do not run (log 2). -/
def Obligations.FaultsEndInFaulted : Prop :=
  ∀ s : State, s.ctl.timersReadable = true →
    let enters (i : Instr) (c : Controller) (fault : DriveFault) (kind : ErrorKind) : Prop :=
      let announced := (c.modDrive fun d =>
        { d with state := .faulted fault, heads := .unloaded, clearing := false }).offerBoth
          (.driveState (.faulted fault))
      let entered := (announced.records.filter (·.isDisk)).foldl (fun e r =>
        if r.state = .waiting then e.leave r.seq (some (r.answer .driveFault))
        else if r.state = .lingering then e.failEarly r kind r.job.start else e) announced
      let unlocked := ((entered.modDrive fun d => { d with state := .cooling, interlockLocked := false }).send
        .unlockInterlock).offerBoth (.driveState .cooling)
      let cooling : Controller :=
        if s.ctl.drive.cartridgeLine = s.ctl.drive.cartridgePresent then unlocked
        else if s.ctl.drive.cartridgeLine = true then
          (unlocked.modDrive fun d => { d with cartridgePresent := true }).fallbackEntry .packChanged
        else unlocked.modDrive fun d => { d with cartridgePresent := false }
      (s.ctl.drive.targetOn = true → Gives i s entered) ∧
      (s.ctl.drive.targetOn = false → s.ctl.drive.restedOff = false → Gives i s
        ((if c.drive.spindleOn = true then (entered.modDrive fun d => { d with spindleOn := false }).send .spindleOff
          else entered).modDrive fun d => { d with state := .spinningDown })) ∧
      (s.ctl.drive.targetOn = false → s.ctl.drive.restedOff = true →
        (s.ctl.drive.coolDown ≠ none → Gives i s cooling) ∧
        (s.ctl.drive.coolDown = none → Gives i s
          ((cooling.modDrive fun d => { d with state := .stopped }).offerBoth (.driveState .stopped))))
    (s.ctl.drive.state = .spinningUp → s.ctl.drive.spinUp ≠ none → enters .spinUpLimitExpiry
      ((s.ctl.modDrive fun d => { d with spinUp := none, spindleOn := false }).send .spindleOff) .spinUp .notReady) ∧
    (s.ctl.drive.state ≠ .spinningUp ∨ s.ctl.drive.spinUp = none → Gives .spinUpLimitExpiry s s.ctl) ∧
    (s.ctl.drive.state = .loadingHeads → s.ctl.drive.recalWait ≠ none → enters .loadingRecalTimeout
      ((s.ctl.modDrive fun d => { d with recalWait := none }).send .headsOff) .recal .seek) ∧
    (s.ctl.drive.state ≠ .loadingHeads ∨ s.ctl.drive.recalWait = none → Gives .loadingRecalTimeout s s.ctl) ∧
    (s.ctl.drive.state = .ready → s.ctl.drive.clearing = true →
      (3 ≤ s.ctl.drive.clearCount → enters (.faultClearWaitExpiry true)
        ((s.ctl.modDrive fun d => { d with writeFaultLine := true }).send .headsOff) .writeFault .writeFault) ∧
      (s.ctl.drive.clearCount < 3 → Answers (.faultClearWaitExpiry true) s fun c =>
        c.drive.state = .ready ∧ c.drive.clearing = true ∧ c.drive.clearCount = s.ctl.drive.clearCount + 1 ∧
        c.drive.writeFaultLine = true ∧ c.driveOut = s.ctl.driveOut ++ [.faultClear] ∧ c.work = s.ctl.work) ∧
      (s.ctl.drive.targetOn = true → Answers (.faultClearWaitExpiry false) s fun c =>
        c.drive.state = .ready ∧ c.drive.clearing = false ∧ c.drive.writeFaultLine = false ∧
        c.driveOut = s.ctl.driveOut ∧ c.work = s.ctl.work) ∧
      (s.ctl.drive.targetOn = false →
        (s.ctl.anyIn .active = true ∨ s.ctl.anyIn .lingering = true → Answers (.faultClearWaitExpiry false) s fun c =>
          c.drive.state = .ready ∧ c.drive.clearing = false ∧ c.drive.writeFaultLine = false ∧
          c.driveOut = s.ctl.driveOut ∧ c.work = s.ctl.work) ∧
        (s.ctl.anyIn .active = false → s.ctl.anyIn .lingering = false → Gives (.faultClearWaitExpiry false) s
          ((s.ctl.modDrive fun d =>
            { d with writeFaultLine := false, clearing := false, state := .unloading, heads := .unloading
                     unloadWait := some 400, unloadIdle := false }).send .headsOff)))) ∧
    (∀ raised, s.ctl.drive.state ≠ .ready ∨ s.ctl.drive.clearing = false →
      Gives (.faultClearWaitExpiry raised) s s.ctl)

/-- A supply-low (R129). In the spinning states the ACTIVE record is aborted with kind SUPPLY, the heads are retracted
where they are loaded or loading, the timers of the way up stop, the spindle is commanded off, and SPINNING-DOWN is
entered; a level-3 flush then fails its LINGERING records with NOT-READY (R112). In the other states only supply good
becomes no, and a turning FAULTED spindle is commanded off.
An immediate abort ends the ACTIVE record with DRIVE-FAULT, the abort's kind and the sector in hand, none for a
FORMAT-TRACK; a data field or a slot of a logical track that was being written is reported TORN first (R100, R101). -/
def Obligations.SupplyLowTakesTheDriveDown : Prop :=
  (∀ s : State, s.ctl.timersReadable = true →
    let low := s.ctl.modDrive fun d => { d with supplyGood := false }
    let retracted (c : Controller) : Controller :=
      if s.ctl.drive.heads = .loaded ∨ s.ctl.drive.heads = .loading then c.send .emergencyUnload else c
    let off (c : Controller) : Controller :=
      if s.ctl.drive.spindleOn = true then (c.modDrive fun d => { d with spindleOn := false }).send .spindleOff else c
    let down := (off ((retracted (low.abort .supply)).modDrive fun d =>
      { d with heads := .unloaded, clearing := false, spinUp := none, headLoad := none, recalWait := none
               unloadWait := none })).modDrive fun d => { d with state := .spinningDown }
    (s.ctl.drive.state ∈ [.spinningUp, .loadingHeads, .ready, .unloading, .parked] →
      (s.ctl.level3 = none → Gives .supplyLow s down) ∧
      (s.ctl.level3 ≠ none → Gives .supplyLow s ((down.records.filter (·.state == .lingering)).foldl
        (fun c r => c.failEarly r .notReady r.job.start) down))) ∧
    (s.ctl.drive.state ∈ [.spinningDown, .cooling, .stopped] → Gives .supplyLow s low) ∧
    (∀ f, s.ctl.drive.state = .faulted f → Gives .supplyLow s (off low))) ∧
  (∀ (c : Controller) (kind : ErrorKind), c.engine.work = none → c.abort kind = c) ∧
  ∀ (c : Controller) (kind : ErrorKind) (w : Work) (r : Record), c.engine.work = some w →
    c.findRecord w.seq = some r →
    let failing : Option Nat := match r.job with
      | .formatTrack _ _ _ => none
      | _ => some (r.job.start + r.done)
    (w.phase = .writing → c.abort kind = (c.reportSuspect (r.job.start + r.done) .torn r.channel).endActive
      .driveFault (some kind) failing) ∧
    (∀ slot cylinder head fill, w.phase = .formatting slot → r.job = .formatTrack cylinder head fill →
      (cylinder < 400 → c.abort kind = (c.reportSuspect (cylinder * 48 + head * 24 + slot) .torn
        r.channel).endActive .driveFault (some kind) none) ∧
      (400 ≤ cylinder → c.abort kind = c.endActive .driveFault (some kind) none)) ∧
    (w.phase ≠ .writing → (∀ slot, w.phase ≠ .formatting slot) →
      c.abort kind = c.endActive .driveFault (some kind) failing)

/-- The expiry of the ready-wait timer ends every disk record that waits on the drive: a WAITING one is answered
NOT-READY with kind NOT-READY, a LINGERING one becomes a deferred error of that kind with its start LSA, in
acceptance order, each with what its leaving brings (R42, R109, R132); with no SYNC waiting and no drain in
progress that is all. With no ready-wait timer running the command has no effect (log 2).
In FAULTED, with no other disk record waiting on the drive, a disk order that passes its checks enters the Work List
and is ended as soon as it is there (R131): a READ, VERIFY, SEEK, logical FORMAT-TRACK or WRITE that waits is answered
DRIVE-FAULT, with no kind and no failing LSA; a WRITE answered DONE, EARLY becomes a deferred error with its start LSA
and the kind of the fault, and DEFERRED-ERROR is offered (R109). A FORMAT-TRACK on a spare track, which is no disk
record, waits (log 11). -/
def Obligations.ReadyWaitEndsWaitingRecords : Prop :=
  (∀ s : State, s.ctl.timersReadable = true →
    (s.ctl.drive.readyWait = none → Gives .readyWaitExpiry s s.ctl) ∧
    (s.ctl.drive.readyWait ≠ none → Gives .readyWaitExpiry s
      ((s.ctl.records.filter (·.isDisk)).foldl (fun c r =>
        if r.state = .waiting then c.leave r.seq (some { r.answer .notReady with kind := some .notReady })
        else if r.state = .lingering then c.failEarly r .notReady r.job.start else c)
        (s.ctl.modDrive fun d => { d with readyWait := none }))) ∧
    (s.ctl.drive.readyWait ≠ none → s.ctl.sequenceSound → s.ctl.noticesReadable .a = true →
      s.ctl.noticesReadable .b = true → s.ctl.anyIn .syncWait = false →
      (∀ n h toWaiter, s.ctl.claimAt n ≠ some (.handingOver h toWaiter)) →
      let waiting (r : Record) : Bool := r.isDisk && r.state == .waiting
      let lingering (r : Record) : Bool := r.isDisk && r.state == .lingering
      ∃ c : Controller, Gives .readyWaitExpiry s c ∧
        c.records = s.ctl.records.filter (fun r => !waiting r && !lingering r) ∧
        (∀ ch, (c.port ch).ready = (s.ctl.port ch).ready ++
          ((s.ctl.records.filter waiting).filter (·.channel == ch)).map fun r =>
            { r.answer .notReady with kind := some .notReady }) ∧
        (∀ ch, c.work.deferred.get ch = ((s.ctl.records.filter lingering).filter (·.channel == ch)).foldl
          (fun d r => some (addFailure d r.tag r.job.start .notReady)) (s.ctl.work.deferred.get ch)) ∧
        c.claims = s.ctl.claims ∧ c.tables = s.ctl.tables ∧ c.engine = s.ctl.engine ∧ c.media = s.ctl.media ∧
        c.drive.still = s.ctl.drive.still ∧ c.work.commitPending = s.ctl.work.commitPending)) ∧
  ∀ (ch : Channel) (f : OrderFrame) (s : State) (fault : DriveFault) (n : Nat) (e : ExtentEntry),
    s.ctl.timersReadable = true → s.ctl.drive.state = .faulted fault → s.ctl.sequenceSound →
    (∀ r ∈ s.ctl.records, r.isDisk = true → r.state ≠ .waiting ∧ r.state ≠ .lingering) →
    let kind : ErrorKind := match fault with
      | .spinUp => .notReady
      | .recal => .seek
      | .writeFault => .writeFault
    let rest (c : Controller) : Prop := c.records = s.ctl.records ∧ c.work.nextSeq = s.ctl.work.nextSeq + 1 ∧
      c.work.commitPending = s.ctl.work.commitPending ∧ (c.port ch.other).ready = (s.ctl.port ch.other).ready ∧
      c.tables = s.ctl.tables ∧ c.claims = s.ctl.claims ∧ c.drive = s.ctl.drive ∧ c.engine = s.ctl.engine ∧
      c.media = s.ctl.media
    let ended (i : Instr) (fn : Func) (buffers : Vector (List Word) 12) : Prop :=
      ∃ c : Controller, Gives i s c ∧ rest c ∧ c.buffers = buffers ∧ c.work.deferred = s.ctl.work.deferred ∧
        (c.port ch).ready = (s.ctl.port ch).ready ++ [answerTo f fn .driveFault]
    (∀ start count, parseSectors f.words = some (.sectors start count) →
      s.ctl.extentOf (start, start + count - 1) = .found n e →
      (s.ctl.passes (.of .read ch f) = true → ended (.read ch f) .read s.ctl.buffers) ∧
      (s.ctl.passes (.of .verify ch f) = true → ended (.verify ch f) .verify s.ctl.buffers)) ∧
    (∀ lsa, parseLsa f.words = some (.lsa lsa) → s.ctl.extentOf (lsa, lsa) = .found n e →
      s.ctl.passes (.of .seek ch f) = true → ended (.seek ch f) .seek s.ctl.buffers) ∧
    (∀ cylinder head fill, parseTrack f.words = some (.track cylinder head fill) →
      s.ctl.passes (.of .formatTrack ch f) = true →
      (cylinder < 400 → s.ctl.extentOf (cylinder * 48 + head * 24, cylinder * 48 + head * 24 + 23) = .found n e →
        ended (.formatTrack ch f) .formatTrack s.ctl.buffers) ∧
      (400 ≤ cylinder → Gives (.formatTrack ch f) s ((s.ctl.frameTaken ch).addRecord
        { s.ctl.recordFor ch f (.formatTrack cylinder head fill) .waiting with cls := Class.ofNat? f.cls.toNat }))) ∧
    (∀ start count data, parseWrite f.words = some (.writeData start count data) →
      s.ctl.extentOf (start, start + count - 1) = .found n e → s.ctl.passes (.of .write ch f) = true →
      let filled := s.ctl.fillBuffers (s.ctl.freeBuffers.take count) data
      (e.writeBehind = false ∨ (s.ctl.channelRecord ch).writeBehindPermitted = false ∨
        s.ctl.work.deferred.get ch ≠ none → ended (.write ch f) .write filled.buffers) ∧
      (e.writeBehind = true → (s.ctl.channelRecord ch).writeBehindPermitted = true →
        s.ctl.work.deferred.get ch = none → s.ctl.noticesReadable ch = true → s.ctl.anyIn .syncWait = false →
        (∀ toWaiter, s.ctl.claimAt n ≠ some (.handingOver ch toWaiter)) →
        ∃ c : Controller, Gives (.write ch f) s c ∧ rest c ∧ c.buffers = filled.buffers ∧
          (c.port ch).ready = (s.ctl.port ch).ready ++ [{ answerTo f .write .done with early := true }] ∧
          c.work.deferred = s.ctl.work.deferred.set ch
            (some { tag := f.tag, lsa := start, kind := kind, further := 0 }) ∧
          (c.port ch).notices = ((s.ctl.port ch).takeNotice ((s.ctl.channelRecord ch).enables 7)
            (.deferredError f.tag)).notices))

/-! What every step keeps. -/

/-- In FALLBACK no step begins to write on the pack: the data fields and format slots that the drive has been sent
after a step begun in FALLBACK are, in their order and with their repetitions, among those it had been sent before
it, so that none is sent anew nor a second time (R102, R153, R155). -/
def Obligations.NothingIsWrittenInFallback : Prop :=
  ∀ s t : State, s.ctl.inFallback = true → step s = .next t →
    (t.ctl.driveOut.filter (·.writes)).Sublist (s.ctl.driveOut.filter (·.writes))

/-- Every step keeps each Notice Queue within 8 entries with no two equal (R171).
Every step keeps the Suspect List within 8 entries with no two of one LSA (R162). -/
def Obligations.BoundedListsStaySound : Prop :=
  Kept Controller.noticesSound ∧ Kept Controller.suspectsSound

/-- Every step keeps the pack interlock locked in every state but STOPPED and COOLING, and unlocked there (R135). -/
def Obligations.InterlockFollowsTheState : Prop := Kept Controller.interlockSound

/-- Every step keeps it so that remap-unconfirmed is set only in FALLBACK and with no Remap Table position in use
(R13). -/
def Obligations.UnconfirmedMeansFallbackWithoutRemap : Prop := Kept Controller.unconfirmedSound

/-- Every step keeps the Work List in acceptance order, each sequence number below the next, and within 16 records (R38,
R39). -/
def Obligations.WorkListStaysOrderedAndWithinSixteen : Prop :=
  Kept fun c => c.sequenceSound ∧ c.listSound

/-- Every step keeps at most one record ACTIVE, in a Work List in acceptance order (R54). -/
def Obligations.AtMostOneRecordIsActive : Prop := Kept fun c => c.sequenceSound ∧ c.oneActive

/-- Every step keeps every held buffer one of the twelve and held by one record (R43). -/
def Obligations.NoBufferIsHeldTwice : Prop := Kept fun c => c.sequenceSound ∧ c.buffersSound

/-- Every step keeps a claim state for each valid EXCLUSIVE entry of the active Extent Table, and none for any other
entry (R67). -/
def Obligations.ClaimStatesFollowTheExtents : Prop := Kept Controller.claimsSound

/-- Every step keeps these together, in a Work List in acceptance order: the Engine is at work exactly on the ACTIVE
record (R54, R85); a channel's Delivery Queue holds exactly its DELIVERING records (R56, R57); and the
COMMIT-pending mark is set exactly while a COMMIT-WAIT record is present, of which there is at most one (R28, R30,
R42). -/
def Obligations.RecordStatesFollowTheirHolders : Prop :=
  Kept fun c => c.sequenceSound ∧ c.engineSound ∧ c.deliverySound ∧ c.commitSound

/-! Inbound frames. -/

/-- The words of an inbound frame and the command they are (R167, R177). Word 0 holds the type, 0 ORDER or 1 RESET, in
bits 15..13 and the length of the whole frame in bits 12..0; word 1 of an ORDER holds the tag in bits 15..8, the
function code in bits 7..2 and the class in bits 1..0, that of a RESET the level. Every order and RESET that a
channel can send is encoded in these words, and its encoding decodes to it again, with every operand as it was.
Codes 0 to 20 are the 21 functions in the order of R177, and the others are undefined. Another type, a length
below 2, a RESET of another length than 2 and a level outside 1..3 are discarded, each by its cause; while words
are missing there is no command yet. The command of a frame joins the end of the queue (the model's choice, logs 1
and 23). -/
def Obligations.InboundFramesDecode : Prop :=
  (∀ (i : Instr) (ch : Channel) (words : List Word), i.wellFormed = true → i.frame? = some (ch, words) →
    decodeFrame ch words = some i) ∧
  (∀ (i : Instr) (o : Order), i.order? = some o → i.frame? = some (o.channel,
    BitVec.ofNat 16 (o.frame.words.length + 2)
      :: BitVec.ofNat 16 (o.frame.tag.toNat * 256 + o.code.toNat * 4 + o.frame.cls.toNat) :: o.frame.words)) ∧
  (∀ ch : Channel, (Instr.resetLevel1 ch).frame? = some (ch, [8194, 1]) ∧
    (Instr.resetLevel2 ch).frame? = some (ch, [8194, 2]) ∧ (Instr.resetLevel3 ch).frame? = some (ch, [8194, 3])) ∧
  [Func.null, .read, .write, .verify, .formatTrack, .seek, .sync, .claim, .yield, .keep, .release, .status,
    .readSuspect, .readTable, .loadTable, .copyActive, .commit, .setDriveTarget, .clearDeferred, .clearSuspect,
    .clearMonitor].map Func.code = List.range 21 ∧
  (∀ (ch : Channel) (code : BitVec 6) (f : OrderFrame), 21 ≤ code.toNat →
    Instr.ofCode ch code f = .undefinedFunction ch code f) ∧
  (∀ (fn : Func) (ch : Channel) (f : OrderFrame), (Instr.ofFunc fn ch f).order? = some (.of fn ch f) ∧
    Instr.ofCode ch (BitVec.ofNat 6 fn.code) f = .ofFunc fn ch f) ∧
  ∀ (ch : Channel) (head level : Word) (rest : List Word),
    (2 ≤ head.toNat / 8192 → decodeFrame ch (head :: rest) = some (.frameDiscarded ch .badType)) ∧
    (head.toNat / 8192 ≤ 1 →
      (head.toNat % 8192 < 2 → decodeFrame ch (head :: rest) = some (.frameDiscarded ch .lengthBelowTwo)) ∧
      (2 ≤ head.toNat % 8192 → head.toNat / 8192 = 1 → head.toNat % 8192 ≠ 2 →
        decodeFrame ch (head :: rest) = some (.frameDiscarded ch .badResetLength)) ∧
      (2 ≤ head.toNat % 8192 → head.toNat / 8192 = 0 → rest.length + 1 < head.toNat % 8192 →
        decodeFrame ch (head :: rest) = none)) ∧
    (level.toNat = 0 ∨ 4 ≤ level.toNat → decodeFrame ch [8194, level] = some (.frameDiscarded ch .badResetLevel)) ∧
    decodeFrame ch [8194] = none ∧ decodeFrame ch [] = none ∧
    ∀ s : State, (s.receive ch (head :: rest)).ctl = s.ctl ∧ (s.receive ch (head :: rest)).pending =
      s.pending ++ (decodeFrame ch (head :: rest)).toList

end
end

