-- ==== Sys2Proof/Laws/State.lean ====
section
/-! SUPPORT. One lemma for each field of the block after each update of Machine/Ops.lean, and the reading of one
channel's value after the writing of one. -/

namespace Sys2Proof.Machine

/-! One value for each channel. -/

@[simp] theorem PerChannel.get_set_self {α : Type} (p : PerChannel α) (ch : Channel) (v : α) :
    (p.set ch v).get ch = v := by cases ch <;> rfl

@[simp] theorem PerChannel.get_set_other {α : Type} (p : PerChannel α) (ch : Channel) (v : α) :
    (p.set ch v).get ch.other = p.get ch.other := by cases ch <;> rfl

theorem PerChannel.get_set_of_ne {α : Type} (p : PerChannel α) {ch d : Channel} (v : α) (h : d ≠ ch) :
    (p.set ch v).get d = p.get d := by cases ch <;> cases d <;> first | rfl | exact absurd rfl h

@[simp] theorem channel_other_other (ch : Channel) : ch.other.other = ch := by cases ch <;> rfl

theorem channel_other_ne (ch : Channel) : ch.other ≠ ch := by cases ch <;> decide

/-! The updates. -/

@[simp] theorem Controller.setPort_ports (c : Controller) (ch : Channel) (p : Port) :
    (c.setPort ch p).ports = c.ports.set ch p := rfl
@[simp] theorem Controller.setPort_work (c : Controller) (ch : Channel) (p : Port) :
    (c.setPort ch p).work = c.work := rfl
@[simp] theorem Controller.setPort_buffers (c : Controller) (ch : Channel) (p : Port) :
    (c.setPort ch p).buffers = c.buffers := rfl
@[simp] theorem Controller.setPort_claims (c : Controller) (ch : Channel) (p : Port) :
    (c.setPort ch p).claims = c.claims := rfl
@[simp] theorem Controller.setPort_tables (c : Controller) (ch : Channel) (p : Port) :
    (c.setPort ch p).tables = c.tables := rfl
@[simp] theorem Controller.setPort_engine (c : Controller) (ch : Channel) (p : Port) :
    (c.setPort ch p).engine = c.engine := rfl
@[simp] theorem Controller.setPort_drive (c : Controller) (ch : Channel) (p : Port) :
    (c.setPort ch p).drive = c.drive := rfl
@[simp] theorem Controller.setPort_media (c : Controller) (ch : Channel) (p : Port) :
    (c.setPort ch p).media = c.media := rfl
@[simp] theorem Controller.setPort_level3 (c : Controller) (ch : Channel) (p : Port) :
    (c.setPort ch p).level3 = c.level3 := rfl
@[simp] theorem Controller.setPort_driveOut (c : Controller) (ch : Channel) (p : Port) :
    (c.setPort ch p).driveOut = c.driveOut := rfl

@[simp] theorem Controller.modPort_ports (c : Controller) (ch : Channel) (f : Port → Port) :
    (c.modPort ch f).ports = c.ports.set ch (f (c.port ch)) := rfl
@[simp] theorem Controller.modPort_work (c : Controller) (ch : Channel) (f : Port → Port) :
    (c.modPort ch f).work = c.work := rfl
@[simp] theorem Controller.modPort_buffers (c : Controller) (ch : Channel) (f : Port → Port) :
    (c.modPort ch f).buffers = c.buffers := rfl
@[simp] theorem Controller.modPort_claims (c : Controller) (ch : Channel) (f : Port → Port) :
    (c.modPort ch f).claims = c.claims := rfl
@[simp] theorem Controller.modPort_tables (c : Controller) (ch : Channel) (f : Port → Port) :
    (c.modPort ch f).tables = c.tables := rfl
@[simp] theorem Controller.modPort_engine (c : Controller) (ch : Channel) (f : Port → Port) :
    (c.modPort ch f).engine = c.engine := rfl
@[simp] theorem Controller.modPort_drive (c : Controller) (ch : Channel) (f : Port → Port) :
    (c.modPort ch f).drive = c.drive := rfl
@[simp] theorem Controller.modPort_media (c : Controller) (ch : Channel) (f : Port → Port) :
    (c.modPort ch f).media = c.media := rfl
@[simp] theorem Controller.modPort_level3 (c : Controller) (ch : Channel) (f : Port → Port) :
    (c.modPort ch f).level3 = c.level3 := rfl
@[simp] theorem Controller.modPort_driveOut (c : Controller) (ch : Channel) (f : Port → Port) :
    (c.modPort ch f).driveOut = c.driveOut := rfl

@[simp] theorem Controller.modWork_ports (c : Controller) (f : WorkList → WorkList) :
    (c.modWork f).ports = c.ports := rfl
@[simp] theorem Controller.modWork_work (c : Controller) (f : WorkList → WorkList) :
    (c.modWork f).work = f c.work := rfl
@[simp] theorem Controller.modWork_buffers (c : Controller) (f : WorkList → WorkList) :
    (c.modWork f).buffers = c.buffers := rfl
@[simp] theorem Controller.modWork_claims (c : Controller) (f : WorkList → WorkList) :
    (c.modWork f).claims = c.claims := rfl
@[simp] theorem Controller.modWork_tables (c : Controller) (f : WorkList → WorkList) :
    (c.modWork f).tables = c.tables := rfl
@[simp] theorem Controller.modWork_engine (c : Controller) (f : WorkList → WorkList) :
    (c.modWork f).engine = c.engine := rfl
@[simp] theorem Controller.modWork_drive (c : Controller) (f : WorkList → WorkList) :
    (c.modWork f).drive = c.drive := rfl
@[simp] theorem Controller.modWork_media (c : Controller) (f : WorkList → WorkList) :
    (c.modWork f).media = c.media := rfl
@[simp] theorem Controller.modWork_level3 (c : Controller) (f : WorkList → WorkList) :
    (c.modWork f).level3 = c.level3 := rfl
@[simp] theorem Controller.modWork_driveOut (c : Controller) (f : WorkList → WorkList) :
    (c.modWork f).driveOut = c.driveOut := rfl

@[simp] theorem Controller.setRecords_ports (c : Controller) (rs : List Record) :
    (c.setRecords rs).ports = c.ports := rfl
@[simp] theorem Controller.setRecords_work (c : Controller) (rs : List Record) :
    (c.setRecords rs).work = { c.work with records := rs } := rfl
@[simp] theorem Controller.setRecords_buffers (c : Controller) (rs : List Record) :
    (c.setRecords rs).buffers = c.buffers := rfl
@[simp] theorem Controller.setRecords_claims (c : Controller) (rs : List Record) :
    (c.setRecords rs).claims = c.claims := rfl
@[simp] theorem Controller.setRecords_tables (c : Controller) (rs : List Record) :
    (c.setRecords rs).tables = c.tables := rfl
@[simp] theorem Controller.setRecords_engine (c : Controller) (rs : List Record) :
    (c.setRecords rs).engine = c.engine := rfl
@[simp] theorem Controller.setRecords_drive (c : Controller) (rs : List Record) :
    (c.setRecords rs).drive = c.drive := rfl
@[simp] theorem Controller.setRecords_media (c : Controller) (rs : List Record) :
    (c.setRecords rs).media = c.media := rfl
@[simp] theorem Controller.setRecords_level3 (c : Controller) (rs : List Record) :
    (c.setRecords rs).level3 = c.level3 := rfl
@[simp] theorem Controller.setRecords_driveOut (c : Controller) (rs : List Record) :
    (c.setRecords rs).driveOut = c.driveOut := rfl

@[simp] theorem Controller.modRecord_ports (c : Controller) (seq : Nat) (f : Record → Record) :
    (c.modRecord seq f).ports = c.ports := rfl
@[simp] theorem Controller.modRecord_work (c : Controller) (seq : Nat) (f : Record → Record) :
    (c.modRecord seq f).work = { c.work with records := c.records.map fun r => if r.seq == seq then f r else r } := rfl
@[simp] theorem Controller.modRecord_buffers (c : Controller) (seq : Nat) (f : Record → Record) :
    (c.modRecord seq f).buffers = c.buffers := rfl
@[simp] theorem Controller.modRecord_claims (c : Controller) (seq : Nat) (f : Record → Record) :
    (c.modRecord seq f).claims = c.claims := rfl
@[simp] theorem Controller.modRecord_tables (c : Controller) (seq : Nat) (f : Record → Record) :
    (c.modRecord seq f).tables = c.tables := rfl
@[simp] theorem Controller.modRecord_engine (c : Controller) (seq : Nat) (f : Record → Record) :
    (c.modRecord seq f).engine = c.engine := rfl
@[simp] theorem Controller.modRecord_drive (c : Controller) (seq : Nat) (f : Record → Record) :
    (c.modRecord seq f).drive = c.drive := rfl
@[simp] theorem Controller.modRecord_media (c : Controller) (seq : Nat) (f : Record → Record) :
    (c.modRecord seq f).media = c.media := rfl
@[simp] theorem Controller.modRecord_level3 (c : Controller) (seq : Nat) (f : Record → Record) :
    (c.modRecord seq f).level3 = c.level3 := rfl
@[simp] theorem Controller.modRecord_driveOut (c : Controller) (seq : Nat) (f : Record → Record) :
    (c.modRecord seq f).driveOut = c.driveOut := rfl

@[simp] theorem Controller.setClaim_ports (c : Controller) (e : Nat) (v : Option Claim) :
    (c.setClaim e v).ports = c.ports := rfl
@[simp] theorem Controller.setClaim_work (c : Controller) (e : Nat) (v : Option Claim) :
    (c.setClaim e v).work = c.work := rfl
@[simp] theorem Controller.setClaim_buffers (c : Controller) (e : Nat) (v : Option Claim) :
    (c.setClaim e v).buffers = c.buffers := rfl
@[simp] theorem Controller.setClaim_claims (c : Controller) (e : Nat) (v : Option Claim) :
    (c.setClaim e v).claims = c.claims.setIfInBounds e v := rfl
@[simp] theorem Controller.setClaim_tables (c : Controller) (e : Nat) (v : Option Claim) :
    (c.setClaim e v).tables = c.tables := rfl
@[simp] theorem Controller.setClaim_engine (c : Controller) (e : Nat) (v : Option Claim) :
    (c.setClaim e v).engine = c.engine := rfl
@[simp] theorem Controller.setClaim_drive (c : Controller) (e : Nat) (v : Option Claim) :
    (c.setClaim e v).drive = c.drive := rfl
@[simp] theorem Controller.setClaim_media (c : Controller) (e : Nat) (v : Option Claim) :
    (c.setClaim e v).media = c.media := rfl
@[simp] theorem Controller.setClaim_level3 (c : Controller) (e : Nat) (v : Option Claim) :
    (c.setClaim e v).level3 = c.level3 := rfl
@[simp] theorem Controller.setClaim_driveOut (c : Controller) (e : Nat) (v : Option Claim) :
    (c.setClaim e v).driveOut = c.driveOut := rfl

@[simp] theorem Controller.setTables_ports (c : Controller) (t : TableStore) : (c.setTables t).ports = c.ports := rfl
@[simp] theorem Controller.setTables_work (c : Controller) (t : TableStore) : (c.setTables t).work = c.work := rfl
@[simp] theorem Controller.setTables_buffers (c : Controller) (t : TableStore) :
    (c.setTables t).buffers = c.buffers := rfl
@[simp] theorem Controller.setTables_claims (c : Controller) (t : TableStore) :
    (c.setTables t).claims = c.claims := rfl
@[simp] theorem Controller.setTables_tables (c : Controller) (t : TableStore) : (c.setTables t).tables = t := rfl
@[simp] theorem Controller.setTables_engine (c : Controller) (t : TableStore) :
    (c.setTables t).engine = c.engine := rfl
@[simp] theorem Controller.setTables_drive (c : Controller) (t : TableStore) : (c.setTables t).drive = c.drive := rfl
@[simp] theorem Controller.setTables_media (c : Controller) (t : TableStore) : (c.setTables t).media = c.media := rfl
@[simp] theorem Controller.setTables_level3 (c : Controller) (t : TableStore) :
    (c.setTables t).level3 = c.level3 := rfl
@[simp] theorem Controller.setTables_driveOut (c : Controller) (t : TableStore) :
    (c.setTables t).driveOut = c.driveOut := rfl

@[simp] theorem Controller.setDeferred_ports (c : Controller) (ch : Channel) (d : Option DeferredRecord) :
    (c.setDeferred ch d).ports = c.ports := rfl
@[simp] theorem Controller.setDeferred_work (c : Controller) (ch : Channel) (d : Option DeferredRecord) :
    (c.setDeferred ch d).work = { c.work with deferred := c.work.deferred.set ch d } := rfl
@[simp] theorem Controller.setDeferred_buffers (c : Controller) (ch : Channel) (d : Option DeferredRecord) :
    (c.setDeferred ch d).buffers = c.buffers := rfl
@[simp] theorem Controller.setDeferred_claims (c : Controller) (ch : Channel) (d : Option DeferredRecord) :
    (c.setDeferred ch d).claims = c.claims := rfl
@[simp] theorem Controller.setDeferred_tables (c : Controller) (ch : Channel) (d : Option DeferredRecord) :
    (c.setDeferred ch d).tables = c.tables := rfl
@[simp] theorem Controller.setDeferred_engine (c : Controller) (ch : Channel) (d : Option DeferredRecord) :
    (c.setDeferred ch d).engine = c.engine := rfl
@[simp] theorem Controller.setDeferred_drive (c : Controller) (ch : Channel) (d : Option DeferredRecord) :
    (c.setDeferred ch d).drive = c.drive := rfl
@[simp] theorem Controller.setDeferred_media (c : Controller) (ch : Channel) (d : Option DeferredRecord) :
    (c.setDeferred ch d).media = c.media := rfl
@[simp] theorem Controller.setDeferred_level3 (c : Controller) (ch : Channel) (d : Option DeferredRecord) :
    (c.setDeferred ch d).level3 = c.level3 := rfl
@[simp] theorem Controller.setDeferred_driveOut (c : Controller) (ch : Channel) (d : Option DeferredRecord) :
    (c.setDeferred ch d).driveOut = c.driveOut := rfl

@[simp] theorem Controller.setBuffer_ports (c : Controller) (i : Nat) (ws : List Word) :
    (c.setBuffer i ws).ports = c.ports := rfl
@[simp] theorem Controller.setBuffer_work (c : Controller) (i : Nat) (ws : List Word) :
    (c.setBuffer i ws).work = c.work := rfl
@[simp] theorem Controller.setBuffer_buffers (c : Controller) (i : Nat) (ws : List Word) :
    (c.setBuffer i ws).buffers = c.buffers.setIfInBounds i ws := rfl
@[simp] theorem Controller.setBuffer_claims (c : Controller) (i : Nat) (ws : List Word) :
    (c.setBuffer i ws).claims = c.claims := rfl
@[simp] theorem Controller.setBuffer_tables (c : Controller) (i : Nat) (ws : List Word) :
    (c.setBuffer i ws).tables = c.tables := rfl
@[simp] theorem Controller.setBuffer_engine (c : Controller) (i : Nat) (ws : List Word) :
    (c.setBuffer i ws).engine = c.engine := rfl
@[simp] theorem Controller.setBuffer_drive (c : Controller) (i : Nat) (ws : List Word) :
    (c.setBuffer i ws).drive = c.drive := rfl
@[simp] theorem Controller.setBuffer_media (c : Controller) (i : Nat) (ws : List Word) :
    (c.setBuffer i ws).media = c.media := rfl
@[simp] theorem Controller.setBuffer_level3 (c : Controller) (i : Nat) (ws : List Word) :
    (c.setBuffer i ws).level3 = c.level3 := rfl
@[simp] theorem Controller.setBuffer_driveOut (c : Controller) (i : Nat) (ws : List Word) :
    (c.setBuffer i ws).driveOut = c.driveOut := rfl

@[simp] theorem Controller.setEngine_ports (c : Controller) (e : Engine) : (c.setEngine e).ports = c.ports := rfl
@[simp] theorem Controller.setEngine_work (c : Controller) (e : Engine) : (c.setEngine e).work = c.work := rfl
@[simp] theorem Controller.setEngine_buffers (c : Controller) (e : Engine) :
    (c.setEngine e).buffers = c.buffers := rfl
@[simp] theorem Controller.setEngine_claims (c : Controller) (e : Engine) : (c.setEngine e).claims = c.claims := rfl
@[simp] theorem Controller.setEngine_tables (c : Controller) (e : Engine) : (c.setEngine e).tables = c.tables := rfl
@[simp] theorem Controller.setEngine_engine (c : Controller) (e : Engine) : (c.setEngine e).engine = e := rfl
@[simp] theorem Controller.setEngine_drive (c : Controller) (e : Engine) : (c.setEngine e).drive = c.drive := rfl
@[simp] theorem Controller.setEngine_media (c : Controller) (e : Engine) : (c.setEngine e).media = c.media := rfl
@[simp] theorem Controller.setEngine_level3 (c : Controller) (e : Engine) : (c.setEngine e).level3 = c.level3 := rfl
@[simp] theorem Controller.setEngine_driveOut (c : Controller) (e : Engine) :
    (c.setEngine e).driveOut = c.driveOut := rfl

@[simp] theorem Controller.setWork_ports (c : Controller) (w : Option Work) : (c.setWork w).ports = c.ports := rfl
@[simp] theorem Controller.setWork_work (c : Controller) (w : Option Work) : (c.setWork w).work = c.work := rfl
@[simp] theorem Controller.setWork_buffers (c : Controller) (w : Option Work) :
    (c.setWork w).buffers = c.buffers := rfl
@[simp] theorem Controller.setWork_claims (c : Controller) (w : Option Work) : (c.setWork w).claims = c.claims := rfl
@[simp] theorem Controller.setWork_tables (c : Controller) (w : Option Work) : (c.setWork w).tables = c.tables := rfl
@[simp] theorem Controller.setWork_engine (c : Controller) (w : Option Work) :
    (c.setWork w).engine = { c.engine with work := w } := rfl
@[simp] theorem Controller.setWork_drive (c : Controller) (w : Option Work) : (c.setWork w).drive = c.drive := rfl
@[simp] theorem Controller.setWork_media (c : Controller) (w : Option Work) : (c.setWork w).media = c.media := rfl
@[simp] theorem Controller.setWork_level3 (c : Controller) (w : Option Work) : (c.setWork w).level3 = c.level3 := rfl
@[simp] theorem Controller.setWork_driveOut (c : Controller) (w : Option Work) :
    (c.setWork w).driveOut = c.driveOut := rfl

@[simp] theorem Controller.modDrive_ports (c : Controller) (f : Sequencer → Sequencer) :
    (c.modDrive f).ports = c.ports := rfl
@[simp] theorem Controller.modDrive_work (c : Controller) (f : Sequencer → Sequencer) :
    (c.modDrive f).work = c.work := rfl
@[simp] theorem Controller.modDrive_buffers (c : Controller) (f : Sequencer → Sequencer) :
    (c.modDrive f).buffers = c.buffers := rfl
@[simp] theorem Controller.modDrive_claims (c : Controller) (f : Sequencer → Sequencer) :
    (c.modDrive f).claims = c.claims := rfl
@[simp] theorem Controller.modDrive_tables (c : Controller) (f : Sequencer → Sequencer) :
    (c.modDrive f).tables = c.tables := rfl
@[simp] theorem Controller.modDrive_engine (c : Controller) (f : Sequencer → Sequencer) :
    (c.modDrive f).engine = c.engine := rfl
@[simp] theorem Controller.modDrive_drive (c : Controller) (f : Sequencer → Sequencer) :
    (c.modDrive f).drive = f c.drive := rfl
@[simp] theorem Controller.modDrive_media (c : Controller) (f : Sequencer → Sequencer) :
    (c.modDrive f).media = c.media := rfl
@[simp] theorem Controller.modDrive_level3 (c : Controller) (f : Sequencer → Sequencer) :
    (c.modDrive f).level3 = c.level3 := rfl
@[simp] theorem Controller.modDrive_driveOut (c : Controller) (f : Sequencer → Sequencer) :
    (c.modDrive f).driveOut = c.driveOut := rfl

@[simp] theorem Controller.setMedia_ports (c : Controller) (m : Media) : (c.setMedia m).ports = c.ports := rfl
@[simp] theorem Controller.setMedia_work (c : Controller) (m : Media) : (c.setMedia m).work = c.work := rfl
@[simp] theorem Controller.setMedia_buffers (c : Controller) (m : Media) : (c.setMedia m).buffers = c.buffers := rfl
@[simp] theorem Controller.setMedia_claims (c : Controller) (m : Media) : (c.setMedia m).claims = c.claims := rfl
@[simp] theorem Controller.setMedia_tables (c : Controller) (m : Media) : (c.setMedia m).tables = c.tables := rfl
@[simp] theorem Controller.setMedia_engine (c : Controller) (m : Media) : (c.setMedia m).engine = c.engine := rfl
@[simp] theorem Controller.setMedia_drive (c : Controller) (m : Media) : (c.setMedia m).drive = c.drive := rfl
@[simp] theorem Controller.setMedia_media (c : Controller) (m : Media) : (c.setMedia m).media = m := rfl
@[simp] theorem Controller.setMedia_level3 (c : Controller) (m : Media) : (c.setMedia m).level3 = c.level3 := rfl
@[simp] theorem Controller.setMedia_driveOut (c : Controller) (m : Media) :
    (c.setMedia m).driveOut = c.driveOut := rfl

@[simp] theorem Controller.send_ports (c : Controller) (d : DriveCmd) : (c.send d).ports = c.ports := rfl
@[simp] theorem Controller.send_work (c : Controller) (d : DriveCmd) : (c.send d).work = c.work := rfl
@[simp] theorem Controller.send_buffers (c : Controller) (d : DriveCmd) : (c.send d).buffers = c.buffers := rfl
@[simp] theorem Controller.send_claims (c : Controller) (d : DriveCmd) : (c.send d).claims = c.claims := rfl
@[simp] theorem Controller.send_tables (c : Controller) (d : DriveCmd) : (c.send d).tables = c.tables := rfl
@[simp] theorem Controller.send_engine (c : Controller) (d : DriveCmd) : (c.send d).engine = c.engine := rfl
@[simp] theorem Controller.send_drive (c : Controller) (d : DriveCmd) : (c.send d).drive = c.drive := rfl
@[simp] theorem Controller.send_media (c : Controller) (d : DriveCmd) : (c.send d).media = c.media := rfl
@[simp] theorem Controller.send_level3 (c : Controller) (d : DriveCmd) : (c.send d).level3 = c.level3 := rfl
@[simp] theorem Controller.send_driveOut (c : Controller) (d : DriveCmd) :
    (c.send d).driveOut = c.driveOut ++ [d] := rfl

/-! Readings after an update. -/

@[simp] theorem Controller.setPort_port_self (c : Controller) (ch : Channel) (p : Port) :
    (c.setPort ch p).port ch = p := PerChannel.get_set_self ..

@[simp] theorem Controller.setPort_port_other (c : Controller) (ch : Channel) (p : Port) :
    (c.setPort ch p).port ch.other = c.port ch.other := PerChannel.get_set_other ..

@[simp] theorem Controller.modPort_port_self (c : Controller) (ch : Channel) (f : Port → Port) :
    (c.modPort ch f).port ch = f (c.port ch) := PerChannel.get_set_self ..

@[simp] theorem Controller.modPort_port_other (c : Controller) (ch : Channel) (f : Port → Port) :
    (c.modPort ch f).port ch.other = c.port ch.other := PerChannel.get_set_other ..

@[simp] theorem Controller.setRecords_records (c : Controller) (rs : List Record) :
    (c.setRecords rs).records = rs := rfl

@[simp] theorem Controller.setClaim_claimAt_self (c : Controller) (e : Nat) (v : Option Claim) (h : e < 16) :
    (c.setClaim e v).claimAt e = v := by
  simp [Controller.claimAt, Controller.setClaim, h]

theorem Controller.setClaim_claimAt_of_ne (c : Controller) {e n : Nat} (v : Option Claim) (h : e ≠ n) :
    (c.setClaim e v).claimAt n = c.claimAt n := by
  simp [Controller.claimAt, Controller.setClaim, h]

end Sys2Proof.Machine
end

