-- ==== Sys2Proof/Laws/Ops.lean ====
section
/-! SUPPORT. What the shared operations of Machine/Ops.lean leave alone, one lemma for each; what the end of a step
leaves alone; and the form in which every meaning answers. -/

namespace Sys2Proof.Machine

/-- `d` differs from `c` at most in ports, Work List, claims, the active Channel Records, extents and remap, the mode,
and the Engine's work: what answers, notices, leavings, claims and fallback entries may change. -/
structure Controller.SameRest (c d : Controller) : Prop where
  buffers  : d.buffers = c.buffers
  drive    : d.drive = c.drive
  media    : d.media = c.media
  level3   : d.level3 = c.level3
  sent     : d.driveOut = c.driveOut
  cylinder : d.engine.cylinder = c.engine.cylinder
  recal    : d.engine.recalPending = c.engine.recalPending
  staged   : d.tables.staged = c.tables.staged
  record   : d.tables.active.drive = c.tables.active.drive
  monitor  : d.tables.active.monitor = c.tables.active.monitor

namespace Controller

theorem SameRest.rfl {c : Controller} : c.SameRest c := by constructor <;> exact Eq.refl _

theorem SameRest.trans {c d e : Controller} (h : c.SameRest d) (k : d.SameRest e) : c.SameRest e where
  buffers := k.buffers.trans h.buffers
  drive := k.drive.trans h.drive
  media := k.media.trans h.media
  level3 := k.level3.trans h.level3
  sent := k.sent.trans h.sent
  cylinder := k.cylinder.trans h.cylinder
  recal := k.recal.trans h.recal
  staged := k.staged.trans h.staged
  record := k.record.trans h.record
  monitor := k.monitor.trans h.monitor

/-- A fold of steps that leave the rest alone leaves it alone. -/
theorem SameRest.foldl {α : Type} {f : Controller → α → Controller} (h : ∀ (c : Controller) (a : α), c.SameRest (f c a)) :
    ∀ (l : List α) (c : Controller), c.SameRest (l.foldl f c)
  | [], _ => .rfl
  | a :: l, c => (h c a).trans (SameRest.foldl h l (f c a))

theorem SameRest.timersReadable {c d : Controller} (h : c.SameRest d) : d.timersReadable = c.timersReadable := by
  simp only [Controller.timersReadable, h.record]

/-! The updates. -/

theorem setPort_sameRest (c : Controller) (ch : Channel) (p : Port) : c.SameRest (c.setPort ch p) := by
  constructor <;> exact Eq.refl _

theorem modPort_sameRest (c : Controller) (ch : Channel) (f : Port → Port) : c.SameRest (c.modPort ch f) :=
  setPort_sameRest ..

theorem modWork_sameRest (c : Controller) (f : WorkList → WorkList) : c.SameRest (c.modWork f) := by
  constructor <;> exact Eq.refl _

theorem setRecords_sameRest (c : Controller) (rs : List Record) : c.SameRest (c.setRecords rs) := by
  constructor <;> exact Eq.refl _

theorem setClaim_sameRest (c : Controller) (e : Nat) (v : Option Claim) : c.SameRest (c.setClaim e v) := by
  constructor <;> exact Eq.refl _

theorem setDeferred_sameRest (c : Controller) (ch : Channel) (d : Option DeferredRecord) :
    c.SameRest (c.setDeferred ch d) := by
  constructor <;> exact Eq.refl _

theorem setWork_sameRest (c : Controller) (w : Option Work) : c.SameRest (c.setWork w) := by
  constructor <;> exact Eq.refl _

theorem frameTaken_sameRest (c : Controller) (ch : Channel) : c.SameRest (c.frameTaken ch) := modPort_sameRest ..

theorem addRecord_sameRest (c : Controller) (r : Record) : c.SameRest (c.addRecord r) := modWork_sameRest ..

/-! Answers, leavings, claims. -/

theorem placeAnswer_sameRest (c : Controller) (ch : Channel) (a : Answer) : c.SameRest (c.placeAnswer ch a) :=
  modPort_sameRest ..

theorem answerOrder_sameRest (c : Controller) (o : Order) (code : AnswerCode) : c.SameRest (c.answerOrder o code) :=
  placeAnswer_sameRest ..

theorem offerUntested_sameRest (c : Controller) (ch : Channel) (n : Notice) : c.SameRest (c.offerUntested ch n) :=
  modPort_sameRest ..

theorem takeOut_sameRest (c : Controller) (seq : Nat) (ans : Option Answer) : c.SameRest (c.takeOut seq ans) := by
  unfold takeOut
  cases c.findRecord seq with
  | none => exact .rfl
  | some r =>
    have h : c.SameRest (((match ans with | none => c | some a => c.placeAnswer r.channel a).setRecords
        ((match ans with | none => c | some a => c.placeAnswer r.channel a).records.filter (·.seq != seq))).modPort
          r.channel (·.dropDelivery seq)) := by
      refine SameRest.trans ?_ ((setRecords_sameRest ..).trans (modPort_sameRest ..))
      cases ans with
      | none => exact .rfl
      | some a => exact placeAnswer_sameRest ..
    dsimp only
    split
    · exact h.trans (modWork_sameRest ..)
    · exact h

theorem answerWaiter_sameRest (c : Controller) (ch : Channel) (e : Nat) (code : AnswerCode) :
    c.SameRest (c.answerWaiter ch e code) := by
  unfold answerWaiter
  split
  · exact .rfl
  · exact takeOut_sameRest ..

theorem endDrain_sameRest (c : Controller) (e : Nat) : c.SameRest (c.endDrain e) := by
  unfold endDrain
  split
  · split
    · split
      · exact (setClaim_sameRest ..).trans (answerWaiter_sameRest ..)
      · exact setClaim_sameRest ..
    · exact .rfl
  · exact .rfl

theorem drainFalls_sameRest (c : Controller) (r : Record) : c.SameRest (c.drainFalls r) := by
  unfold drainFalls
  split
  · exact .rfl
  · split
    · split
      · exact endDrain_sameRest ..
      · exact .rfl
    · exact .rfl

theorem modRecord_sameRest (c : Controller) (seq : Nat) (f : Record → Record) : c.SameRest (c.modRecord seq f) :=
  setRecords_sameRest ..

theorem moveRecord_sameRest (c : Controller) (r : Record) (extent : Nat) : c.SameRest (c.moveRecord r extent) :=
  (modRecord_sameRest ..).trans (drainFalls_sameRest ..)

theorem resolve_sameRest (c : Controller) (r : Record) : c.SameRest (c.resolve r) := by
  unfold resolve
  split
  · exact .rfl
  · split
    · exact moveRecord_sameRest ..
    · exact .rfl

theorem completeSyncs_sameRest (c : Controller) (ch : Channel) : c.SameRest (c.completeSyncs ch) :=
  SameRest.foldl (fun _ _ => takeOut_sameRest ..) _ _

theorem leave_sameRest (c : Controller) (seq : Nat) (ans : Option Answer) : c.SameRest (c.leave seq ans) := by
  unfold leave
  cases c.findRecord seq with
  | none => exact .rfl
  | some r =>
    have h := (takeOut_sameRest c seq ans).trans (drainFalls_sameRest _ r)
    dsimp only
    split
    · exact h.trans (completeSyncs_sameRest ..)
    · exact h

/-- A record in a state that no drain counts and no SYNC awaits leaves by being taken out, and nothing follows. -/
theorem leave_eq_takeOut {c : Controller} {r : Record} (h : c.findRecord r.seq = some r) (l : r.state ≠ .lingering)
    (a : r.state ≠ .active) (ans : Option Answer) : c.leave r.seq ans = c.takeOut r.seq ans := by
  have hl : (r.state == RecState.lingering) = false := by simpa using l
  have ha : (r.state == RecState.active) = false := by simpa using a
  have hf : ∀ d : Controller, d.drainFalls r = d := fun d => by
    simp only [drainFalls, Record.inDrain, hl, ha, Bool.or_self, Bool.and_false, Bool.false_eq_true, if_false]
    split <;> [rfl; (split <;> rfl)]
  simp only [leave, h, hf, Record.endsSyncs, hl, ha, Bool.and_false, Bool.or_self, Bool.false_eq_true, if_false]

theorem turnAwayWrites_sameRest (c : Controller) (ch : Channel) (e : Nat) : c.SameRest (c.turnAwayWrites ch e) :=
  SameRest.foldl (fun _ _ => leave_sameRest ..) _ _

theorem dropClaim_sameRest (c : Controller) (offer : Controller → Channel → Notice → Controller)
    (h : ∀ (c : Controller) (ch : Channel) (n : Notice), c.SameRest (offer c ch n)) (e : Nat) :
    c.SameRest (c.dropClaim offer e) := by
  unfold dropClaim
  split
  · exact .rfl
  · rename_i cl _
    have h1 : c.SameRest (match cl.holder with
        | none => c.setClaim e none
        | some hd => offer (c.setClaim e none) hd (.claimLost e)) := by
      refine (setClaim_sameRest c e none).trans ?_
      split
      · exact .rfl
      · exact h ..
    dsimp only
    split
    · exact h1
    · exact h1.trans (answerWaiter_sameRest ..)

theorem dropClaims_sameRest (c : Controller) (offer : Controller → Channel → Notice → Controller)
    (h : ∀ (c : Controller) (ch : Channel) (n : Notice), c.SameRest (offer c ch n)) :
    c.SameRest (c.dropClaims offer) :=
  SameRest.foldl (fun c e => dropClaim_sameRest c offer h e) _ _

/-! Fallback entry and notices. -/

theorem clearClaims_sameRest (c : Controller) : c.SameRest c.clearClaims := by constructor <;> exact Eq.refl _

theorem givePendingStop_sameRest (c : Controller) (st : Stop) : c.SameRest (c.givePendingStop st) := by
  unfold givePendingStop
  split
  · exact .rfl
  · exact setWork_sameRest ..

theorem fallbackEntry_sameRest (c : Controller) (reason : FallbackReason) : c.SameRest (c.fallbackEntry reason) := by
  have h1 : c.SameRest (c.setTables (c.tables.enterFallback reason)) := by constructor <;> exact Eq.refl _
  refine h1.trans (SameRest.trans ?_ ((givePendingStop_sameRest ..).trans
    ((offerUntested_sameRest ..).trans (offerUntested_sameRest ..))))
  split
  · exact clearClaims_sameRest _
  · exact dropClaims_sameRest _ _ fun _ _ _ => offerUntested_sameRest ..

theorem tableFault_sameRest (c : Controller) : c.SameRest c.tableFault := fallbackEntry_sameRest ..

theorem testWord_sameRest (c : Controller) (w : TWord) : c.SameRest (c.testWord w) := by
  unfold testWord
  split
  · exact .rfl
  · exact tableFault_sameRest c

theorem offer_sameRest (c : Controller) (ch : Channel) (n : Notice) : c.SameRest (c.offer ch n) :=
  (testWord_sameRest ..).trans (offerUntested_sameRest ..)

theorem offerBoth_sameRest (c : Controller) (n : Notice) : c.SameRest (c.offerBoth n) :=
  (offer_sameRest ..).trans (offer_sameRest ..)

theorem enterHandover_sameRest (c : Controller) (e : Nat) (h : Channel) (w : Bool) (mid : Controller → Controller)
    (hm : ∀ c : Controller, c.SameRest (mid c)) : c.SameRest (c.enterHandover e h w mid) := by
  have h1 := (setClaim_sameRest c e (some (.handingOver h w))).trans (hm _)
  unfold enterHandover
  dsimp only
  split
  · exact h1.trans ((turnAwayWrites_sameRest ..).trans (endDrain_sameRest ..))
  · exact h1

/-! Failures of records. -/

theorem failEarly_sameRest (c : Controller) (r : Record) (kind : ErrorKind) (lsa : Nat) :
    c.SameRest (c.failEarly r kind lsa) := by
  unfold failEarly
  exact (setDeferred_sameRest ..).trans ((offer_sameRest ..).trans (leave_sameRest ..))

theorem endWaiting_sameRest (c : Controller) (ans : Record → Answer) (kind : Option ErrorKind) (r : Record) :
    c.SameRest (c.endWaiting ans kind r) := by
  unfold endWaiting
  split
  · exact leave_sameRest ..
  · exact failEarly_sameRest ..
  · exact .rfl

theorem endAllWaiting_sameRest (c : Controller) (ans : Record → Answer) (kind : Option ErrorKind) :
    c.SameRest (c.endAllWaiting ans kind) :=
  SameRest.foldl (fun _ _ => endWaiting_sameRest ..) _ _

/-! The end of a step. -/

theorem SameUpToEnd.rfl {c : Controller} : c.SameUpToEnd c := by
  constructor <;> first | exact Eq.refl _ | exact Or.inl (Eq.refl _)

/-- What only changes the two ports' frames and timers, or the watched fields of the Sequencer, changes nothing up to
the end of a step. -/
theorem SameUpToEnd.step {c d e : Controller} (h : c.SameUpToEnd d) (a : e.ports.a.still = d.ports.a.still)
    (b : e.ports.b.still = d.ports.b.still) (w : e.work = d.work) (bu : e.buffers = d.buffers)
    (cl : e.claims = d.claims) (t : e.tables = d.tables) (en : e.engine = d.engine)
    (dr : e.drive.still = d.drive.still) (m : e.media = d.media) (l : e.level3 = d.level3)
    (s : e.driveOut = d.driveOut) : c.SameUpToEnd e where
  portA := a.trans h.portA
  portB := b.trans h.portB
  work := w.trans h.work
  buffers := bu.trans h.buffers
  claims := cl.trans h.claims
  tables := t.trans h.tables
  engine := en.trans h.engine
  drive := dr.trans h.drive
  media := m.trans h.media
  level3 := l.trans h.level3
  sent := by rw [s]; exact h.sent

theorem startClearing_same (c : Controller) : c.SameUpToEnd c.startClearing := by
  unfold startClearing
  split
  · constructor <;> first | exact Eq.refl _ | exact Or.inr (Eq.refl _)
  · exact .rfl

theorem settleReadyWait_same {c d : Controller} (h : c.SameUpToEnd d) (g : d.tables.active.drive.w2.good = true) :
    c.SameUpToEnd d.settleReadyWait := by
  unfold settleReadyWait
  split
  · exact h.step rfl rfl rfl rfl rfl rfl rfl rfl rfl rfl rfl
  · split
    · exact h
    · simp only [readReadyWait, readTimer, g, if_true]
      exact h.step rfl rfl rfl rfl rfl rfl rfl rfl rfl rfl rfl

theorem settleIdle_same {c d : Controller} (h : c.SameUpToEnd d) (g : d.tables.active.drive.w3.good = true)
    (was : Bool) : c.SameUpToEnd (d.settleIdle was) := by
  have k : ∀ t, c.SameUpToEnd (d.modDrive fun x => { x with idle := t }) := fun t =>
    h.step rfl rfl rfl rfl rfl rfl rfl rfl rfl rfl rfl
  simp only [settleIdle, g, Bool.not_true, Bool.false_eq_true, if_false]
  split
  · exact k _
  · split
    · exact k _
    · split
      · exact h
      · exact k _

theorem pumpPort_same {c d : Controller} (h : c.SameUpToEnd d) (ch : Channel) : c.SameUpToEnd (d.pumpPort ch) := by
  simp only [pumpPort]
  split
  · exact h
  · cases ch <;> exact h.step rfl rfl rfl rfl rfl rfl rfl rfl rfl rfl rfl

theorem pump_same {c d : Controller} (h : c.SameUpToEnd d) : c.SameUpToEnd d.pump :=
  pumpPort_same (pumpPort_same h .a) .b

/-- The end of a step touches nothing beyond SameUpToEnd where the two Drive Record words it may read are good. -/
theorem settle_same (before after : Controller) (h : after.timersReadable = true) :
    after.SameUpToEnd (settle before after) := by
  simp only [timersReadable, Bool.and_eq_true] at h
  have h1 := startClearing_same after
  have g2 : after.startClearing.tables.active.drive.w2.good = true := by rw [h1.tables]; exact h.1
  have h2 := settleReadyWait_same h1 g2
  have g3 : after.startClearing.settleReadyWait.tables.active.drive.w3.good = true := by rw [h2.tables]; exact h.2
  exact pump_same (settleIdle_same h2 g3 _)

end Controller

/-! The form in which a meaning answers. -/

/-- A command whose meaning is one change of the block answers with that change, up to the end of the step. -/
theorem gives_of_run {i : Instr} {s : State} {f : Controller → Controller} (h : exec i s = s.run f)
    (g : (f s.ctl).timersReadable = true) : Gives i s (f s.ctl) :=
  ⟨_, h, rfl, Controller.settle_same _ _ g⟩

/-- The queue's rest is untouched and the block is the change of it, settled. -/
theorem answers_of_run {i : Instr} {s : State} {f : Controller → Controller} {p : Controller → Prop}
    (h : exec i s = s.run f) (g : p (s.ctl.settle (f s.ctl))) : Answers i s p :=
  ⟨_, h, rfl, g⟩

end Sys2Proof.Machine
end

