-- ==== Sys2Proof/Laws/Effect.lean ====
section
/-! SUPPORT. Every command is one change of the block with the end of its step; and how an order comes to its
acceptance, its refusal or its second checking. -/

namespace Sys2Proof

open Machine in
/-- The change of the block that a command's meaning runs. -/
def Instr.effect : Instr → Controller → Controller
  | .powerOn cart sup wf => fun _ => .powerOn cart sup wf
  | .linkPresentRises c => fun k => k.linkRises c
  | .linkPresentFalls c => fun k => k.linkFalls c
  | .frameDiscarded c cause => fun k => k.discardFrame c cause
  | .resetLevel1 c => fun k => k.resetFrame c (fun d => d.frameLevelOne c)
  | .resetLevel2 c => fun k => k.resetFrame c (fun d => d.levelTwo c)
  | .resetLevel3 c => fun k => k.resetFrame c (fun d => d.frameLevelThree c)
  | .level3Values => fun k => k.flushEnds
  | .escalationTimerExpiry c => fun k => k.escalationEnds c
  | .undefinedFunction c code f => fun k => k.order { channel := c, frame := f, code := code, fn := none } id
  | .null c f => fun k => k.order (Order.of .null c f) (fun d => d.answerOrder (Order.of .null c f) .done)
  | .read c f => fun k => k.order (Order.of .read c f) (fun d => d.acceptRead (Order.of .read c f))
  | .write c f => fun k => k.order (Order.of .write c f) (fun d => d.acceptWriteOrder (Order.of .write c f))
  | .verify c f => fun k => k.order (Order.of .verify c f) (fun d => d.acceptVerify (Order.of .verify c f))
  | .formatTrack c f =>
    fun k => k.order (Order.of .formatTrack c f) (fun d => d.acceptFormat (Order.of .formatTrack c f))
  | .seek c f => fun k => k.order (Order.of .seek c f) (fun d => d.acceptSeek (Order.of .seek c f))
  | .sync c f => fun k => k.order (Order.of .sync c f) (fun d => d.acceptSync (Order.of .sync c f))
  | .claim c f => fun k => k.order (Order.of .claim c f) (fun d => d.acceptClaim (Order.of .claim c f))
  | .yield c f => fun k => k.order (Order.of .yield c f) (fun d => d.acceptYield (Order.of .yield c f))
  | .keep c f => fun k => k.order (Order.of .keep c f) (fun d => d.acceptKeep (Order.of .keep c f))
  | .release c f => fun k => k.order (Order.of .release c f) (fun d => d.acceptRelease (Order.of .release c f))
  | .status c f => fun k => k.order (Order.of .status c f) (fun d => d.acceptStatus (Order.of .status c f))
  | .readSuspect c f =>
    fun k => k.order (Order.of .readSuspect c f) (fun d => d.acceptReadSuspect (Order.of .readSuspect c f))
  | .readTable c f =>
    fun k => k.order (Order.of .readTable c f) (fun d => d.acceptReadTable (Order.of .readTable c f))
  | .loadTable c f =>
    fun k => k.order (Order.of .loadTable c f) (fun d => d.acceptLoadTable (Order.of .loadTable c f))
  | .copyActive c f =>
    fun k => k.order (Order.of .copyActive c f) (fun d => d.acceptCopyActive (Order.of .copyActive c f))
  | .commit c f => fun k => k.order (Order.of .commit c f) (fun d => d.acceptCommit (Order.of .commit c f))
  | .setDriveTarget c f =>
    fun k => k.order (Order.of .setDriveTarget c f) (fun d => d.acceptTarget (Order.of .setDriveTarget c f))
  | .clearDeferred c f =>
    fun k => k.order (Order.of .clearDeferred c f) (fun d => d.acceptClearDeferred (Order.of .clearDeferred c f))
  | .clearSuspect c f =>
    fun k => k.order (Order.of .clearSuspect c f) (fun d => d.acceptClearSuspect (Order.of .clearSuspect c f))
  | .clearMonitor c f =>
    fun k => k.order (Order.of .clearMonitor c f) (fun d => d.acceptClearMonitor (Order.of .clearMonitor c f))
  | .outboundWordTaken c => fun k => k.takeWord c
  | .stallLimit c => fun k => k.stallEnds c
  | .arbiterChoice => fun k => k.arbitrate
  | .commitQuietPoint => fun k => k.quietPoint
  | .syncCompletion c => fun k => k.completeSyncs c
  | .drainEnd extent => fun k => k.endDrain extent
  | .yieldTimerExpiry extent => fun k => k.yieldExpires extent
  | .targetOffFlushDone => fun k => k.offSequence
  | .seekComplete => fun k => k.seekCompleted
  | .seekTimeout => fun k => k.seekFailed
  | .recalibrationTimeout => fun k => k.recalibrationFailed
  | .loadingRecalTimeout => fun k => k.loadingRecalFails
  | .indexPulse period lock => fun k => k.indexPulse period lock
  | .missingPulse => fun k => k.pulseMissing
  | .headerRead cyl hd sec check => fun k => k.headerPasses cyl hd sec check
  | .dataFieldRead words check => fun k => k.fieldRead words check
  | .dataFieldWritten => fun k => k.fieldWritten
  | .verifyRereadDone words check => fun k => k.rereadDone words check
  | .formatSlotWritten => fun k => k.slotWritten
  | .writeFault => fun k => k.writeFaultRaised
  | .faultClearWaitExpiry raised => fun k => k.faultClearWaited raised
  | .supplyLow => fun k => k.supplyLow
  | .supplyReturn => fun k => k.supplyReturn
  | .cartridgeInserted => fun k => k.cartridgeChange true
  | .cartridgeRemoved => fun k => k.cartridgeChange false
  | .spindleAtRest => fun k => k.spindleRests
  | .coolDownExpiry => fun k => k.coolDownEnds
  | .spinUpLimitExpiry => fun k => k.spinUpEnds
  | .headLoadExpiry => fun k => k.headLoadEnds
  | .unloadComplete => fun k => k.unloaded
  | .idleExpiry => fun k => k.idleEnds
  | .readyWaitExpiry => fun k => k.readyWaitEnds

end Sys2Proof

namespace Sys2Proof.Machine

/-- Every command runs its change and nothing else. -/
theorem exec_eq_run (i : Instr) (s : State) : exec i s = s.run i.effect := by
  cases i <;> (unfold exec Instr.effect; dsimp only; rfl)

/-- A command answers with its change, up to the end of the step. -/
theorem gives_effect (i : Instr) (s : State) (h : (i.effect s.ctl).timersReadable = true) :
    Gives i s (i.effect s.ctl) := gives_of_run (exec_eq_run i s) h

/-- The next state of a command is its change, settled. -/
theorem exec_next {i : Instr} {s t : State} (h : exec i s = .next t) :
    t = { s with ctl := s.ctl.settle (i.effect s.ctl) } := by
  rw [exec_eq_run] at h
  exact (Host.Outcome.next.inj h).symm

/-- The form of a proof that a command gives a block: its change is that block, and the timers' words are good there. -/
theorem gives_of_effect {i : Instr} {s : State} {c : Controller} (e : i.effect s.ctl = c)
    (g : c.timersReadable = true) : Gives i s c := by
  subst e
  exact gives_effect i s g

/-! The fields of an order of a defined function. -/

@[simp] theorem Order.of_channel (fn : Func) (ch : Channel) (f : OrderFrame) : (Order.of fn ch f).channel = ch := rfl

@[simp] theorem Order.of_frame (fn : Func) (ch : Channel) (f : OrderFrame) : (Order.of fn ch f).frame = f := rfl

@[simp] theorem Order.of_fn (fn : Func) (ch : Channel) (f : OrderFrame) : (Order.of fn ch f).fn = some fn := rfl

@[simp] theorem Order.of_code (fn : Func) (ch : Channel) (f : OrderFrame) :
    (Order.of fn ch f).code = BitVec.ofNat 6 fn.code := rfl

@[simp] theorem Order.of_operands (fn : Func) (ch : Channel) (f : OrderFrame) :
    (Order.of fn ch f).operands = parseOperands fn f.words := rfl

@[simp] theorem Order.of_isDisk (fn : Func) (ch : Channel) (f : OrderFrame) :
    (Order.of fn ch f).isDisk = fn.isDisk := rfl

namespace Controller

/-! The record that the Engine works on. -/

theorem seq_of_findRecord {c : Controller} {n : Nat} {r : Record} (h : c.findRecord n = some r) : r.seq = n := by
  simpa using List.find?_some h

theorem mem_of_findRecord {c : Controller} {n : Nat} {r : Record} (h : c.findRecord n = some r) : r ∈ c.records :=
  List.mem_of_find?_eq_some h

theorem withActive_eq {c : Controller} {w : Work} {r : Record} (f : Work → Record → Controller)
    (hw : c.engine.work = some w) (hr : c.findRecord w.seq = some r) : c.withActive f = f w r := by
  simp [withActive, hw, hr]

theorem withActive_idle {c : Controller} (f : Work → Record → Controller) (hw : c.engine.work = none) :
    c.withActive f = c := by
  simp [withActive, hw]

/-! The taking of a frame changes nothing that a check reads. -/

theorem frameTaken_port_link (c : Controller) (ch d : Channel) : ((c.frameTaken ch).port d).link = (c.port d).link := by
  cases ch <;> cases d <;> rfl

theorem runChecks_frameTaken (c : Controller) (ch : Channel) (o : Order) :
    (c.frameTaken ch).runChecks o = c.runChecks o := by
  have h1 : (c.frameTaken ch).check1 o = c.check1 o := by
    unfold check1
    rw [frameTaken_port_link]
    rfl
  simp only [runChecks, checks, List.findSome?_cons, h1]
  rfl

/-- An order that is received and passes every check is accepted. -/
theorem order_accepted {c : Controller} {o : Order} (accept : Controller → Controller) (h : c.passes o = true) :
    c.order o accept = accept (c.frameTaken o.channel) := by
  simp only [passes, linkUp, Bool.and_eq_true, bne_iff_ne, ne_eq, Option.isNone_iff_eq_none] at h
  simp [order, h.1, takeOrder, runChecks_frameTaken, h.2]

/-- An order that fails a check is answered with the refusal. -/
theorem order_refused {c : Controller} {o : Order} (accept : Controller → Controller) {code : AnswerCode}
    (u : c.linkUp o.channel = true) (h : c.runChecks o = some (.refuse code)) :
    c.order o accept = (c.frameTaken o.channel).answerOrder o code := by
  simp only [linkUp, bne_iff_ne, ne_eq] at u
  simp [order, u, takeOrder, runChecks_frameTaken, h]

end Controller

end Sys2Proof.Machine
end

