-- ==== Sys2Proof/Laws/Frames.lean ====
section
/-! SUPPORT. Inbound frames: the fields of words 0 and 1 read back what was placed in them, a function is found by its
code, and an ORDER frame decodes to its order's command. Outbound frames: what is left of a frame that stops. -/

namespace Sys2Proof

open Machine

theorem Machine.Func.ofCode?_code (fn : Func) : Func.ofCode? fn.code = some fn := by cases fn <;> rfl

theorem Machine.Func.ofCode?_undefined {code : Nat} (h : 21 ≤ code) : Func.ofCode? code = none :=
  List.getElem?_eq_none (by simpa [Func.all] using h)

/-- The type and the length of word 0. -/
theorem frameHead_fields {type length : Nat} (ht : type < 8) (hl : length < 8192) :
    field (frameHead type length) 15 13 = type ∧ field (frameHead type length) 12 0 = length := by
  simp only [field, frameHead, word, place, List.sum_cons, List.sum_nil, BitVec.toNat_ofNat]
  omega

/-- The tag, the function code and the class of word 1. -/
theorem orderHead_fields (tag : BitVec 8) (code : BitVec 6) (cls : BitVec 2) :
    let head := word [place tag.toNat 8, place code.toNat 2, cls.toNat]
    field head 15 8 = tag.toNat ∧ field head 7 2 = code.toNat ∧ field head 1 0 = cls.toNat := by
  have := tag.isLt
  have := code.isLt
  have := cls.isLt
  simp only [field, word, place, List.sum_cons, List.sum_nil, BitVec.toNat_ofNat]
  omega

/-- An ORDER frame decodes to the command of its code. -/
theorem decodeFrame_frameWords (o : Order) (h : o.frame.wellFormed = true) :
    decodeFrame o.channel o.frameWords = some (.ofCode o.channel o.code o.frame) := by
  have hl : o.frame.words.length + 2 < 8192 := by
    simp only [OrderFrame.wellFormed, decide_eq_true_eq] at h
    omega
  obtain ⟨h1, h2⟩ := frameHead_fields (type := 0) (by omega) hl
  obtain ⟨g1, g2, g3⟩ := orderHead_fields o.frame.tag o.code o.frame.cls
  simp [decodeFrame, Order.frameWords, h1, h2, decodeOrder, g1, g2, g3]

namespace Machine

/-- A frame that stops twice is left with the word it was left with. -/
@[simp] theorem OutFrame.stop_stop (f : OutFrame) : f.stop.stop = f.stop := by simp [OutFrame.stop]

@[simp] theorem Port.stopFrame_stopFrame (p : Port) : p.stopFrame.stopFrame = p.stopFrame := by
  cases h : p.out <;> simp [Port.stopFrame, h]

/-- A frame that stops leaves everything of the port but the frame and its timer. -/
@[simp] theorem Port.stopFrame_still (p : Port) : p.stopFrame.still = p.still := rfl

@[simp] theorem Port.stopFrame_out (p : Port) : p.stopFrame.out = p.out.map (·.stop) := rfl

@[simp] theorem Port.stopFrame_stall (p : Port) : p.stopFrame.stall = none := rfl

/-- A record that leaves the Delivery Queue takes its own entry and at most the frame in progress with it. -/
theorem Port.dropDelivery_still (p : Port) (seq : Nat) :
    (p.dropDelivery seq).still = ({ p with delivery := p.delivery.filter (· != seq) } : Port).still := by
  unfold Port.dropDelivery
  dsimp only
  split <;> rfl

end Machine

end Sys2Proof
end

