-- ==== Sys2Proof/Tests/Slice0.lean ====
section
/-! SUPPORT. The model's own tests: an ill-formed command for each check of WellFormed, small steps of the commands, and
for the obligations with hypotheses a concrete state and operands that meet them. -/

namespace Sys2Proof.Tests

set_option Elab.async false

open Sys2Proof.Machine

/-! Ill-formed commands, one for each check. -/

/-- An order frame with a tag and words, class URGENT. -/
def frame (tag : BitVec 8) (words : List Word) : OrderFrame := { tag := tag, cls := 0, words := words }

theorem test_definedCodeIsNoUndefinedFunction :
    (Instr.undefinedFunction .a 20 (frame 1 [])).wellFormed = false ∧
      (Instr.undefinedFunction .a 21 (frame 1 [])).wellFormed = true := by decide

theorem test_frameLongerThanItsLengthField :
    (Instr.null .a (frame 1 (List.replicate 8190 0))).wellFormed = false ∧
      (Instr.null .a (frame 1 (List.replicate 8189 0))).wellFormed = true := by decide +kernel

theorem test_extentNumbersEndAtFifteen :
    (Instr.drainEnd 16).wellFormed = false ∧ (Instr.yieldTimerExpiry 16).wellFormed = false ∧
      (Instr.drainEnd 15).wellFormed = true := by decide

theorem test_dataFieldsHaveTwoHundredFiftySixWords :
    (Instr.dataFieldRead (List.replicate 255 0) 0).wellFormed = false ∧
      (Instr.verifyRereadDone (List.replicate 257 0) 0).wellFormed = false ∧
      (Instr.dataFieldRead (List.replicate 256 0) 0).wellFormed = true := by decide +kernel

/-! The small state of the tests: NORMAL mode, both links ATTACHED, the drive READY, nothing waiting. Channel A manages;
extent 0 is EXCLUSIVE and write-behind, extent 1 SHARED and for A READ only; LSAs 5 and 7 are remapped. -/

def attached : Port := { Port.powerOn with link := .attached, notices := [] }

def record (w0 : Word) : ChannelRecord := { w0 := .fresh w0, w1 := .fresh 8, w2 := .fresh 1023 }

def entry (w0 w1 w2 w3 : Word) : ExtentEntry := { w0 := .fresh w0, w1 := .fresh w1, w2 := .fresh w2, w3 := .fresh w3 }

def tables : TableSet :=
  { channels := { a := record 0xC8C0, b := record 0x58C0 }
    extents := ((Vector.replicate 16 invalidExtent).setIfInBounds 0 (entry 0xEFC0 0 9599 10)).setIfInBounds 1
      (entry 0x89C0 9600 19199 0)
    remap := ((emptyRemap.setIfInBounds 0 { w0 := .fresh 0x8005, w1 := .fresh 0 })).setIfInBounds 1
      { w0 := .fresh 0x8007, w1 := .fresh 383 }
    drive := { defaultDrive with w3 := .fresh 0x3C01 }
    monitor := defaultMonitor }

def running : Sequencer :=
  { Sequencer.powerOn true true false with
    state := .ready, targetOn := true, spindleOn := true, atRest := false, restedOff := false, interlockLocked := true
    heads := .loaded, coolDown := none, pulseSeen := true, inTolerance := 8, idle := some 60000 }

def quiet : Controller :=
  { Controller.powerOn true true false with
    ports := { a := attached, b := attached }
    tables := { staged := tables, active := tables, mode := .normal, remapUnconfirmed := false }
    claims := (Vector.replicate 16 none).setIfInBounds 0 (some .free)
    drive := running }

/-- A state with an empty queue. -/
def st (c : Controller) : State := { ctl := c, pending := [] }

/-- The block after a command. -/
def after (i : Instr) (c : Controller) : Controller :=
  match exec i (st c) with
  | .next t => t.ctl
  | _ => c

/-- The codes of the answers that wait for a channel. -/
def codes (c : Controller) (ch : Channel) : List AnswerCode := (c.port ch).ready.map (·.code)

/-- The Work List holds these records. -/
def holding (c : Controller) (rs : List Record) : Controller :=
  { c with work := { c.work with records := rs, nextSeq := 9 } }

def rec (ch : Channel) (seq : Nat) (job : Job) (state : RecState) : Record :=
  { channel := ch, tag := BitVec.ofNat 8 (seq + 100), job := job, cls := some .normal, extent := some 0, buffers := []
    state := state, bypass := 0, seq := seq, early := false, done := 0, firstError := none, silent := false
    prepared := none, sent := 0 }

/-- The Engine at work in a phase on an ACTIVE record. -/
def working (r : Record) (phase : Phase) (f : Work → Work := id) : Controller :=
  { holding quiet [{ r with state := .active }] with
    engine :=
      { cylinder := 0, recalPending := false
        work := some (f { Work.begin r.seq false with
          phase := phase, inHand := some { lsa := r.job.start, loc := directLocation r.job.start } }) } }

/-- The drive in another state. -/
def inState (c : Controller) (d : SeqState) : Controller := c.modDrive fun x => { x with state := d }

def claimed (cl : Claim) : Controller := quiet.setClaim 0 (some cl)

/-! Orders. -/

theorem test_nullIsAnsweredDone : codes (after (.null .a (frame 1 [])) quiet) .a = [.done] := by decide +kernel

theorem test_undefinedFunctionIsRefused :
    codes (after (.undefinedFunction .b 21 (frame 1 [])) quiet) .b = [.refusedFunction] := by decide +kernel

/-- Each check refuses: function, range, class, tag, extent, rights, claim, drive off, list full, buffers. -/
theorem test_checksRefuse :
    quiet.runChecks (.of .clearMonitor .b (frame 1 [])) = some (.refuse .refusedFunction) ∧
    quiet.runChecks (.of .read .a (frame 1 [19199, 2])) = some (.refuse .refusedRange) ∧
    quiet.runChecks (.of .read .b (frame 1 [0, 1])) = some (.refuse .refusedClass) ∧
    (holding quiet [rec .a 1 (.seek 0) .waiting]).runChecks (.of .null .a (frame 101 [])) =
      some (.refuse .refusedTag) ∧
    quiet.runChecks (.of .read .a (frame 1 [9599, 2])) = some (.refuse .refusedExtent) ∧
    quiet.runChecks (.of .write .a (frame 1 (9600 :: 1 :: List.replicate 256 0))) =
      some (.refuse .refusedRights) ∧
    quiet.runChecks (.of .write .a (frame 1 (9599 :: 1 :: List.replicate 256 0))) = some (.refuse .refusedClaim) ∧
    (quiet.modDrive fun d => { d with targetOn := false }).runChecks (.of .seek .a (frame 1 [0])) =
      some (.refuse .refusedDriveOff) ∧
    (holding quiet ((List.range 8).map fun n => rec .a n .sync .syncWait)).runChecks (.of .seek .a (frame 1 [0])) =
      some (.refuse .refusedListFull) ∧
    (holding (claimed (.held .a)) [{ rec .b 1 (.write 0 8) .waiting with buffers := List.range 12 }]).runChecks
      (.of .write .a (frame 1 (0 :: 1 :: List.replicate 256 0))) = some (.refuse .refusedBuffers) := by
  decide +kernel

/-- WRITE: the last LSA passes, the data is in the lowest buffer, and the answer is early; B, with no write-behind in a
SHARED extent, waits. -/
theorem test_writeIsAnsweredEarlyOrWaits :
    let c := after (.write .a (frame 1 (9599 :: 1 :: List.replicate 256 3))) (claimed (.held .a))
    let d := after (.write .b { frame 1 (19199 :: 1 :: List.replicate 256 3) with cls := 1 }) quiet
    codes c .a = [.done] ∧ (c.records.map (·.state)) = [.lingering] ∧ (c.records.map (·.buffers)) = [[0]] ∧
      c.bufferWords 0 = List.replicate 256 3 ∧ codes d .b = [] ∧ (d.records.map (·.state)) = [.waiting] := by
  decide +kernel

theorem test_diskOrdersWait :
    ((after (.read .a (frame 1 [19199, 1])) quiet).records.map (·.job)) = [.read 19199 1] ∧
    ((after (.verify .a (frame 1 [0, 8])) quiet).records.map (·.extent)) = [some 0] ∧
    ((after (.seek .a (frame 1 [9600])) quiet).records.map (·.extent)) = [some 1] ∧
    ((after (.formatTrack .a (frame 1 [407, 1, 7])) quiet).records.map (·.job)) = [.formatTrack 407 1 7] ∧
    ((after (.formatTrack .a (frame 1 [199, 1, 7])) (claimed (.held .a))).records.map (·.extent)) = [some 0] := by
  decide +kernel

/-- The claim of an extent from FREE to its handover and back. -/
theorem test_claimPassesByYield :
    let c1 := after (.claim .a (frame 1 [0])) quiet
    let c2 := after (.claim .b (frame 2 [0])) c1
    let c3 := after (.yield .a (frame 3 [0])) c2
    codes c1 .a = [.granted] ∧ c2.claimAt 0 = some (.wanted .a (some 1000)) ∧
      (c2.port .a).notices = [.claimWanted 0] ∧ c3.claimAt 0 = some (.held .b) ∧ codes c3 .b = [.granted] ∧
      codes c3 .a = [.granted, .done] := by decide +kernel

theorem test_keepAndReleaseAnswerTheWaiter :
    let c := holding (claimed (.wanted .a (some 1000))) [{ rec .b 1 .claim .claimWait with cls := none }]
    codes (after (.keep .a (frame 3 [0])) c) .b = [.kept] ∧
    codes (after (.release .b (frame 3 [0])) c) .b = [.cancelled, .done] ∧
    codes (after (.release .a (frame 3 [0])) c) .b = [.granted] ∧
    (after (.yieldTimerExpiry 0) c).claimAt 0 = some (.held .b) ∧
    codes (after (.yield .b (frame 3 [0])) c) .b = [.notHolder] := by decide +kernel

theorem test_drainEndsWhenTheWriteHasLeft :
    (after (.drainEnd 0) (claimed (.handingOver .a false))).claimAt 0 = some .free ∧
    (after (.drainEnd 0) (holding (claimed (.handingOver .a false)) [rec .a 1 (.write 0 1) .lingering])).claimAt 0 =
      some (.handingOver .a false) := by decide +kernel

theorem test_syncWaitsForAnEarlyWrite :
    let c := holding quiet [{ rec .a 1 (.write 0 1) .lingering with early := true }]
    let d := after (.sync .a (frame 1 [])) c
    codes d .a = [] ∧ (d.records.map (·.state)) = [.lingering, .syncWait] ∧
      (d.records.map (·.cls)) = [some .urgent, none] ∧
      codes (after (.syncCompletion .a) (holding quiet [rec .a 2 .sync .syncWait])) .a = [.done] ∧
      codes (after (.sync .a (frame 1 [])) quiet) .a = [.done] := by decide +kernel

/-- R109, R114: two early writes fail in one step. The SYNC between them is answered as the first has left, before the
second is counted, and the SYNC after them as the second has left. -/
theorem test_syncBetweenTwoFailuresIsAnsweredBetweenThem :
    let early (n : Nat) : Record := { rec .a n (.write 0 1) .lingering with early := true }
    let c := after .readyWaitExpiry (holding
      (inState (quiet.modDrive fun d => { d with readyWait := some 1 }) .spinningUp)
        [early 1, rec .a 2 .sync .syncWait, early 3, rec .a 4 .sync .syncWait])
    ((c.port .a).ready.map fun a => (a.tag, a.deferred.map (·.further))) = [(102, some 0), (104, some 1)] ∧
      c.records = [] := by decide +kernel

/-- R42, R78: the leaving of the last write of a drain ends it in the same step. -/
theorem test_lastWriteOfADrainPassesTheClaim :
    let c (w : Bool) := holding
      ((inState (quiet.modDrive fun d => { d with readyWait := some 1 }) .spinningUp).setClaim 0
        (some (.handingOver .a w)))
      [{ rec .a 1 (.write 0 1) .lingering with early := true }, { rec .b 2 .claim .claimWait with cls := none }]
    (after .readyWaitExpiry (c true)).claimAt 0 = some (.held .b) ∧
      codes (after .readyWaitExpiry (c true)) .b = [.granted] ∧
      (after .readyWaitExpiry (c false)).claimAt 0 = some .free := by decide +kernel

theorem test_inquiries :
    codes (after (.status .a (frame 1 [])) quiet) .a = [.done] ∧
    codes (after (.readSuspect .b (frame 1 [])) quiet) .b = [.done] ∧
    ((after (.readTable .b (frame 1 [1, 1, 15, 16])) quiet).port .b).ready.map (·.body) =
      [.table [{ words := [0, 0, 0, 0], failed := false }]] := by decide +kernel

theorem test_tablesAreStagedAndCommitted :
    let c := after (.loadTable .a (frame 1 [4, 0, 1, 0x0801])) quiet
    let d := after (.commit .a (frame 2 [])) c
    let e := after .commitQuietPoint d
    codes c .a = [.staged] ∧ (d.records.map (·.state)) = [.commitWait] ∧ codes e .a = [.staged, .committed] ∧
      e.tables.active.monitor.threshold = 8 ∧ (e.port .b).notices = [.tablesCommitted] ∧
      codes (after (.loadTable .a (frame 1 [4, 0, 1, 0])) quiet) .a = [.entryRange] ∧
      codes (after (.copyActive .a (frame 1 [])) quiet) .a = [.staged] := by decide +kernel

theorem test_targetOffUnloads :
    let c := after (.setDriveTarget .a (frame 1 [0])) (holding quiet [rec .b 1 (.read 0 1) .waiting])
    c.drive.state = .unloading ∧ codes c .b = [.driveFault] ∧ codes c .a = [.done] ∧ c.records = [] := by decide +kernel

theorem test_clearingOrders :
    let c := (quiet.setMedia { quiet.media with
      degraded := true, suspects := [{ lsa := 5, kind := .soft, count := 1, channel := .a }] }).setDeferred .a
        (some { tag := 1, lsa := 5, kind := .torn, further := 0 })
    (after (.clearSuspect .a (frame 1 [5])) c).media.suspects = [] ∧
    (after (.clearSuspect .a (frame 1 [65535])) c).media.suspects = [] ∧
    (after (.clearMonitor .a (frame 1 [])) c).media.degraded = false ∧
    (after (.clearDeferred .a (frame 1 [])) c).work.deferred.get .a = none := by decide +kernel

/-! Links and resets. -/

theorem test_linkComesAndGoes :
    ((after (.linkPresentRises .a) (Controller.powerOn true true false)).port .a).link = .attached ∧
    ((after (.linkPresentFalls .a) quiet).port .a).link = .detached ∧
    ((after (.resetLevel1 .a) quiet).port .a).escalation = some 2000 ∧
    ((after (.escalationTimerExpiry .a) (after (.resetLevel1 .a) quiet)).port .a).link = .attached ∧
    ((after (.frameDiscarded .a .parity) quiet).port .a).errorCount = 1 := by decide +kernel

theorem test_resetLevelsTwoAndThree :
    (after (.resetLevel2 .b) quiet).engine.recalPending = true ∧
    (after (.resetLevel3 .b) quiet).level3 = none ∧ (after (.resetLevel3 .b) quiet).engine.recalPending = true ∧
    (after (.resetLevel3 .a) quiet).level3 = some .a ∧
    (after .level3Values (after (.resetLevel3 .a) quiet)).tables.mode = .fallback .reset := by decide +kernel

theorem test_answerGoesOutWordByWord :
    let c := after (.null .a (frame 1 [])) quiet
    ((c.port .a).out.map fun f => f.words.take 2) = some [0x8004, 0x0100] ∧
    (((List.range 4).foldl (fun c _ => after (.outboundWordTaken .a) c) c).port .a).ready = [] := by decide +kernel

theorem test_stallAbandonsTheDelivery :
    let r := { rec .a 1 (.read 0 1) .delivering with
      buffers := [0], done := 1, prepared := some (answerTo (frame 101 []) .read .done) }
    let c := (holding quiet [r]).modPort .a fun p => { p with delivery := [1], stall := some 2000 }
    codes (after (.stallLimit .a) c) .a = [.short] := by decide +kernel

/-- R169: a reset stops a notice after its word in progress, and the next frame begins when that word has been taken. -/
theorem test_stoppedFrameEndsWithItsWord :
    let c := after (.resetLevel1 .a)
      (quiet.modPort .a fun p => { p with out := some { source := .notice, words := [1, 2, 3] } })
    (c.port .a).out = some { source := .stopped, words := [1] } ∧
    ((after (.outboundWordTaken .a) c).port .a).out.map (·.source) = some .notice ∧
    ((after (.outboundWordTaken .a) c).port .a).notices = [.resetDone 1 .a] := by decide +kernel

/-! Inbound frames, their words written out from R177: word 0 type and length, word 1 tag, code and class. -/

theorem test_orderFramesDecode :
    decodeFrame .a [0x0004, 0x0105, 100, 2] = some (.read .a { tag := 1, cls := 1, words := [100, 2] }) ∧
    decodeFrame .b [0x0002, 0xFF03] = some (.null .b { tag := 255, cls := 3, words := [] }) ∧
    decodeFrame .a [0x0002, 0x001B] = some (.sync .a { tag := 0, cls := 3, words := [] }) ∧
    decodeFrame .a [0x0003, 0x091F, 15] = some (.claim .a { tag := 9, cls := 3, words := [15] }) ∧
    decodeFrame .a [0x0002, 0x802F] = some (.status .a { tag := 128, cls := 3, words := [] }) ∧
    decodeFrame .a [0x0006, 0x013B, 4, 0, 1, 0x0801] =
      some (.loadTable .a { tag := 1, cls := 3, words := [4, 0, 1, 0x0801] }) ∧
    decodeFrame .a [0x0002, 0x0143] = some (.commit .a { tag := 1, cls := 3, words := [] }) ∧
    decodeFrame .a [0x0003, 0x0147, 1] = some (.setDriveTarget .a { tag := 1, cls := 3, words := [1] }) ∧
    decodeFrame .a [0x0002, 0x0154] = some (.undefinedFunction .a 21 { tag := 1, cls := 0, words := [] }) := by
  decide +kernel

theorem test_resetFramesDecodeAndBadFramesAreDiscarded :
    decodeFrame .a [0x2002, 1] = some (.resetLevel1 .a) ∧ decodeFrame .b [0x2002, 3] = some (.resetLevel3 .b) ∧
    decodeFrame .a [0x2002, 4] = some (.frameDiscarded .a .badResetLevel) ∧
    decodeFrame .a [0x2003, 1] = some (.frameDiscarded .a .badResetLength) ∧
    decodeFrame .a [0x0001] = some (.frameDiscarded .a .lengthBelowTwo) ∧
    decodeFrame .a [0x8002] = some (.frameDiscarded .a .badType) ∧ decodeFrame .a [0x0004, 0x0105, 100] = none := by
  decide +kernel

/-- R81, R82, R84: a fallback entry that drops a claim tells its holder and answers its waiter; with reason RESET it does
neither. -/
theorem test_fallbackEntryDropsTheClaims :
    let c := holding (claimed (.wanted .a none)) [{ rec .b 1 .claim .claimWait with cls := none }]
    let d := c.fallbackEntry .packChanged
    let e := c.fallbackEntry .reset
    (d.port .a).notices = [.claimLost 0, .fallback .packChanged] ∧ codes d .b = [.revoked] ∧ d.records = [] ∧
      d.claimAt 0 = none ∧ (e.port .a).notices = [.fallback .reset] ∧ codes e .b = [] ∧ e.records = c.records ∧
      e.claimAt 0 = none := by decide +kernel

/-! The arbiter and the Transfer Engine. -/

theorem test_arbiterDispatchesAndPositions :
    let c := after .arbiterChoice (holding quiet [rec .a 1 (.read 48 1) .waiting])
    (c.records.map (·.state)) = [.active] ∧ (c.records.map (·.buffers)) = [[0]] ∧ c.driveOut = [.seek 1] := by
  decide +kernel

theorem test_remappedSectorGoesToItsSpare :
    let c := after .arbiterChoice (holding quiet [rec .a 1 (.read 7 1) .waiting])
    c.driveOut = [.seek 407] := by decide +kernel

theorem test_seekCompleteSelectsTheHead :
    (after .seekComplete (working (rec .a 1 (.read 72 1) .active) (.seeking 1))).driveOut = [.selectHead 1] ∧
    codes (after .seekTimeout (working (rec .a 1 (.seek 72) .active) (.seeking 1))) .a = [.driveFault] ∧
    codes (after .recalibrationTimeout (working (rec .a 1 (.read 72 1) .active) (.recalibrating 1 true))) .a =
      [.short] := by decide +kernel

/-- R88: a recalibration for the mark clears it; one after a header miss leaves it, and so does one that was under way
when a level-2 reset set it. -/
theorem test_markIsClearedByItsOwnRecalibration :
    let c (p : Phase) := let c := working (rec .a 1 (.read 72 1) .active) p
      c.setEngine { c.engine with recalPending := true }
    (after .seekComplete (c (.recalibrating 1 true))).engine.recalPending = false ∧
    (after .seekComplete (after (.indexPulse 25000 true)
      (after (.resetLevel2 .b) (working (rec .a 1 (.read 72 1) .active) (.searching 1))))).engine.recalPending = true ∧
    (after .seekComplete (after (.resetLevel2 .b) (c (.recalibrating 1 true)))).engine.recalPending = true := by
  decide +kernel

/-- What a header read is to the search for cylinder 1, head 1, sector 0. The word of head and sector is a free value, so
these are found by rewriting. -/
theorem test_headerCases :
    let loc : Location := { cylinder := 1, head := 1, sector := 0 }
    let check (cylinder : Word) (head sector : Nat) : Word := checkWord [cylinder, Config.headerSectorWord head sector]
    headerCase loc 1 1 0 (check 1 1 0) = .found ∧ headerCase loc 2 1 0 (check 2 1 0) = .cylinderMismatch ∧
    headerCase loc 1 0 0 (check 1 0 0) = .otherSector ∧ headerCase loc 1 1 1 (check 1 1 1) = .otherSector ∧
    headerCase loc 1 1 0 (check 1 1 0 + 1) = .unreadable := by
  simp [headerCase, headerWords]

theorem test_headerIsFoundOrMissed :
    let c := working (rec .a 1 (.verify 72 1) .active) (.searching 1)
    (c.headerFound.engine.work.map (·.phase)) = some .reading ∧
    c.headerFound.driveOut = [.readField { cylinder := 1, head := 1, sector := 0 }] ∧
    c.headerMiss.driveOut = [.recalibrate] ∧ (after (.indexPulse 25000 true) c).driveOut = [.recalibrate] := by
  decide +kernel

/-- A VERIFY of a field, its check word given as the model computes it. -/
theorem test_dataFieldIsReadOrReadAgain :
    let c := working (rec .a 1 (.verify 72 1) .active) .reading
    let words : List Word := [0, 3]
    codes (after (.dataFieldRead words (checkWord words)) c) .a = [.done] ∧
    ((after (.dataFieldRead words (checkWord words + 1)) c).engine.work.map (·.retry)) = some 1 := by decide +kernel

theorem test_writeEndsOrTears :
    let c := working { rec .a 1 (.write 72 1) .active with buffers := [0] } .writing
    codes (after .dataFieldWritten c) .a = [.done] ∧
    (after .writeFault c).media.suspects = [{ lsa := 72, kind := .torn, count := 1, channel := .a }] ∧
    codes (after .supplyLow c) .a = [.driveFault] := by decide +kernel

theorem test_verifyRereadAgreesOrRewrites :
    let words : List Word := [0, 3]
    let c := (working { rec .a 1 (.write 72 1) .active with buffers := [0] } .rereading).setBuffer 0 words
    codes (after (.verifyRereadDone words (checkWord words)) c) .a = [.done] ∧
    ((after (.verifyRereadDone words (checkWord words + 1)) c).engine.work.map (·.rewrite)) = some true := by
  decide +kernel

theorem test_formatEndsAfterSlotTwentyThree :
    let c (n : Nat) := working (rec .a 1 (.formatTrack 0 0 7) .active) (.formatting n)
    codes (after .formatSlotWritten (c 23)) .a = [.done] ∧
    ((after .formatSlotWritten (c 22)).engine.work.map (·.phase)) = some (.formatting 23) := by decide +kernel

/-- The cyclic check of R5 over no word at all is its preset; over one word of zeros the preset
has gone through sixteen steps of its feedback. -/
theorem test_checkWord : checkWord [] = 0xFFFF#16 ∧ checkWord [0] = 0x800D#16 := by decide +kernel

/-- R178: the words of a notice and of a deferred record in an answer. -/
theorem test_outboundWords :
    noticeFrame (.fallback .tableFault) = [0xC003, 6, 3] ∧
    ({ tag := 200, lsa := 19199, kind := .stalled, further := 255 } : DeferredRecord).words = [200, 19199, 12, 255] ∧
    (answerFrame (answerTo (frame 1 []) .read .granted)).length = 4 ∧
    (answerFrame (answerTo (frame 1 []) .read .granted)).head? = some 0x8004 := by decide +kernel

/-! The Drive Sequencer. -/

theorem test_driveComesUp :
    let stopped := inState (quiet.modDrive fun d => { d with supplyGood := false, atRest := true }) .stopped
    (after .supplyReturn stopped).drive.state = .spinningUp ∧
    (after (.indexPulse 25000 true) (inState quiet .spinningUp)).drive.state = .loadingHeads ∧
    (after .headLoadExpiry (inState (quiet.modDrive fun d => { d with headLoad := some 1500 }) .loadingHeads)).driveOut =
      [.recalibrate] ∧
    (after .seekComplete
      (inState (quiet.modDrive fun d => { d with recalWait := some 800 }) .loadingHeads)).drive.state = .ready := by
  decide +kernel

theorem test_driveGoesDown :
    let resting := inState (quiet.modDrive fun d => { d with spindleOn := false }) .spinningDown
    (after .idleExpiry quiet).drive.state = .unloading ∧
    (after .unloadComplete (after .idleExpiry quiet)).drive.state = .parked ∧
    (after .targetOffFlushDone (quiet.modDrive fun d => { d with targetOn := false })).drive.state = .unloading ∧
    (after .spindleAtRest resting).drive.state = .cooling ∧
    (after .coolDownExpiry (inState (quiet.modDrive fun d => { d with coolDown := some 1, targetOn := false })
      .cooling)).drive.state = .stopped := by decide +kernel

/-- R121: a report of the spindle at rest while it is commanded on starts no cool-down; one after it was commanded off
does; and a start that waits for the cool-down in STOPPED follows its expiry. -/
theorem test_spindleAtRest :
    let up := inState quiet .spinningUp
    let waits := inState (quiet.modDrive fun d =>
      { d with spindleOn := false, atRest := true, coolDown := some 20000 }) .stopped
    (after .spindleAtRest up).drive.atRest = true ∧ (after .spindleAtRest up).drive.coolDown = none ∧
    (after .spindleAtRest up).drive.state = .spinningUp ∧
    (after .spindleAtRest (after .spindleAtRest (up.modDrive fun d => { d with spindleOn := false }))).drive.coolDown =
      some 20000 ∧
    (after .coolDownExpiry waits).drive.state = .spinningUp := by decide +kernel

/-- R131, R121: FAULTED with a rest reported while the spindle was commanded on is left for SPINNING-DOWN with the
spindle commanded off, and the report that follows starts the cool-down; so it is after the spin-up limit. -/
theorem test_faultedAtRestWaitsForTheReport :
    let faults := inState (quiet.modDrive fun d => { d with atRest := true }) (.faulted .recal)
    let limit := after .spinUpLimitExpiry
      (inState (quiet.modDrive fun d => { d with spinUp := some 1, atRest := true }) .spinningUp)
    let off := after (.setDriveTarget .a (frame 1 [0]))
    (off faults).drive.state = .spinningDown ∧ (off faults).driveOut = [.spindleOff] ∧
    (after .spindleAtRest (off faults)).drive.state = .cooling ∧
    (after .spindleAtRest (off faults)).drive.coolDown = some 20000 ∧
    (off limit).drive.state = .spinningDown ∧ (off (after .spindleAtRest limit)).drive.state = .cooling := by
  decide +kernel

theorem test_driveFaults :
    (after .spinUpLimitExpiry (inState (quiet.modDrive fun d => { d with spinUp := some 1 }) .spinningUp)).drive.state =
      .faulted .spinUp ∧
    (after .loadingRecalTimeout
      (inState (quiet.modDrive fun d => { d with recalWait := some 1 }) .loadingHeads)).drive.state = .faulted .recal ∧
    (after (.faultClearWaitExpiry true)
      (quiet.modDrive fun d => { d with clearing := true, clearCount := 3 })).drive.state = .faulted .writeFault ∧
    (after .missingPulse (quiet.modDrive fun d => { d with outOfTolerance := 1 })).drive.state = .spinningUp ∧
    codes (after .readyWaitExpiry (holding
      (inState (quiet.modDrive fun d => { d with readyWait := some 1 }) .spinningUp)
        [rec .b 1 (.read 0 1) .waiting])) .b = [.notReady] := by decide +kernel

theorem test_cartridgeChanges :
    let open' := inState (quiet.modDrive fun d => { d with interlockLocked := false, targetOn := false }) .stopped
    (after .cartridgeRemoved open').drive.cartridgePresent = false ∧
    (after .cartridgeInserted (after .cartridgeRemoved open')).tables.mode = .fallback .packChanged ∧
    (after .cartridgeRemoved quiet).drive.cartridgePresent = true := by decide +kernel

theorem test_powerOnRunsFromAnyState : (after (.powerOn false true false) quiet).drive.cartridgePresent = false := by
  decide +kernel

/-! Witnesses: for each obligation with hypotheses, states and operands that meet them, clause by clause. -/

/-- The active set with one word of failing parity. -/
def damaged (f : TableSet → TableSet) : Controller := quiet.setTables { quiet.tables with active := f tables }

def badExtents (t : TableSet) : TableSet :=
  { t with extents := t.extents.setIfInBounds 0 { entry 0xEFC0 0 9599 10 with w0 := { value := 0xEFC0, good := false } } }

def badNotices (t : TableSet) : TableSet :=
  { t with channels := { t.channels with a := { record 0xC8C0 with w2 := { value := 1023, good := false } } } }

def badYield (t : TableSet) : TableSet :=
  { t with extents := t.extents.setIfInBounds 0 { entry 0xEFC0 0 9599 10 with w3 := { value := 10, good := false } } }

def badRetry (t : TableSet) : TableSet := { t with drive := { t.drive with w4 := { value := 0x8600, good := false } } }

def badRemap (t : TableSet) : TableSet :=
  { t with remap := t.remap.setIfInBounds 0 { w0 := { value := 0x8005, good := false }, w1 := .fresh 0 } }

def badMonitor (t : TableSet) : TableSet := { t with monitor := { w0 := { value := 0x0403, good := false } } }

def noYieldLimit (t : TableSet) : TableSet := { t with extents := t.extents.setIfInBounds 0 (entry 0xEFC0 0 9599 0) }

def write1 : OrderFrame := frame 1 (9599 :: 1 :: List.replicate 256 0)

def fallen : Controller := quiet.fallbackEntry .tableFault

def delivered : Record :=
  { rec .a 1 (.read 0 1) .delivering with
    buffers := [0], done := 1, prepared := some (answerTo (frame 101 []) .read .done) }

def delivering (r : Record) (out : Option OutFrame) : Controller :=
  (holding quiet [r]).modPort .a fun p => { p with delivery := [r.seq], out := out, stall := some 2000 }

def sending (out : Option OutFrame) : Controller := quiet.modPort .a fun p => { p with out := out }

def badRecord (f : DriveRecord → DriveRecord) (t : TableSet) : TableSet := { t with drive := f t.drive }

/-- The Drive Record words of the five timers, each failing. -/
def badSpinUp : TableSet → TableSet := badRecord fun d => { d with w0 := { value := 600, good := false } }
def badCoolDown : TableSet → TableSet := badRecord fun d => { d with w1 := { value := 200, good := false } }
def badReadyWait : TableSet → TableSet := badRecord fun d => { d with w2 := { value := 100, good := false } }
def badIdle : TableSet → TableSet := badRecord fun d => { d with w3 := { value := 0x3C01, good := false } }

/-- O4: a step; the ready-wait and the idle conditions with good and with failing words, the idle unload off and on. -/
theorem witness_EndOfStep :
    (∃ t, exec .arbiterChoice (st quiet) = .next t ∧ t.ctl.timersReadable = true) ∧
    (∀ f ∈ [id, badReadyWait],
      (inState (holding (damaged f) [rec .a 1 (.read 0 1) .waiting]) .spinningUp).readyWaitDue = true) ∧
    quiet.idleDue = true ∧ (quiet.modDrive fun d => { d with idle := none }).drive.idle = none ∧
    quiet.tables.active.drive.idleUnload = 1 ∧ defaultDrive.idleUnload = 0 ∧
    (damaged badReadyWait).tables.active.drive.w2.good = false ∧ (damaged badIdle).tables.active.drive.w3.good = false ∧
    (damaged badIdle).idleDue = true := by
  refine ⟨⟨_, rfl, by decide +kernel⟩, by decide +kernel, by decide +kernel, by decide +kernel, by decide +kernel,
    by decide +kernel, by decide +kernel, by decide +kernel, by decide +kernel⟩

/-- O5: a port whose link is down; one with a delivery in data and in answer; one with an answer, a notice, nothing; values
that fit their fields at their greatest. -/
theorem witness_OutboundFrames :
    ((Controller.powerOn true true false).port .a).link = .detached ∧
    ((delivering delivered none).port .a).delivery.head?.bind (delivering delivered none).findRecord =
      some delivered ∧
    delivered.buffers = [0] ∧ ({ delivered with buffers := [] } : Record).prepared.isSome = true ∧
    (quiet.port .a).delivery = [] ∧ (quiet.port .a).link ≠ .detached ∧ (quiet.port .a).out = none ∧
    (quiet.port .a).ready = [] ∧ (quiet.port .a).notices = [] ∧ (SeqState.faulted .writeFault).value < 2 ^ 4 ∧
    (SeqState.faulted .writeFault).faultValue < 2 ^ 2 ∧ AnswerCode.commitPending.value < 2 ^ 6 ∧
    ErrorKind.stalled.value < 2 ^ 4 ∧ CommitReason.noManager.value < 2 ^ 4 ∧ SuspectKind.torn.value < 2 ^ 4 ∧
    (Mode.fallback .packChanged).reasonValue < 2 ^ 3 ∧ LinkState.recovering.value < 2 ^ 2 := by decide +kernel

/-- O6: a queue of 7, a queue of 8, an entry already there, and an enable word of failing parity. -/
theorem witness_NoticeJudged :
    let full := (List.range 8).map Notice.claimWanted
    Notice.tablesCommitted ∉ full ∧ full.length = 8 ∧ (full.drop 1).length = 7 ∧ Notice.claimWanted 3 ∈ full ∧
    quiet.noticesReadable .a = true ∧ (damaged badNotices).noticesReadable .a = false := by decide +kernel

/-- O7 and O8: test_checksRefuse has an order refused by each check; links are up, and the timers' words are good. -/
theorem witness_RefusedOrders :
    Instr.order? (.clearMonitor .b (frame 1 [])) = some (.of .clearMonitor .b (frame 1 [])) ∧
    quiet.linkUp .b = true ∧ quiet.timersReadable = true ∧ quiet.level3 = none ∧
    ({ quiet with level3 := some .b } : Controller).runChecks (.of .null .a (frame 1 [])) =
      some (.refuse .refusedResetting) ∧
    (quiet.modPort .a fun p => { p with link := .recovering }).runChecks (.of .sync .a (frame 1 [])) =
      some (.refuse .refusedResetting) := by decide +kernel

/-- O8: words of good parity; a range at the edge of an extent, one across it, a named extent that is not valid. -/
theorem witness_ExtentOfARange :
    (∀ e ∈ quiet.tables.active.extents.toList, wordsGood e.words = true) ∧
    quiet.orderExtent (.of .read .a (frame 1 [9599, 1])) = some (.found 0 (entry 0xEFC0 0 9599 10)) ∧
    quiet.orderExtent (.of .read .a (frame 1 [9600, 1])) = some (.found 1 (entry 0x89C0 9600 19199 0)) ∧
    quiet.orderExtent (.of .read .a (frame 1 [9599, 2])) = some .notFound ∧
    quiet.orderExtent (.of .claim .a (frame 1 [15])) = some .notFound ∧
    quiet.orderExtent (.of .formatTrack .a (frame 1 [400, 0, 0])) = none ∧
    (∀ ch, (quiet.channelRecord ch).w0.good = true ∧ (quiet.channelRecord ch).w1.good = true) := by
  refine ⟨by decide +kernel, by decide +kernel, by decide +kernel, by decide +kernel, by decide +kernel,
    by decide +kernel, ?_⟩
  intro ch
  cases ch <;> decide +kernel

/-- O8: the operands of each function at an edge of their ranges and just beyond. -/
theorem witness_Operands :
    parseOperands .read [19192, 8] = some (.sectors 19192 8) ∧ parseOperands .verify [19193, 8] = none ∧
    parseOperands .read [0, 9] = none ∧ parseOperands .read [0, 0] = none ∧ parseOperands .read [0] = none ∧
    parseOperands .formatTrack [407, 1, 0xFFFF] = some (.track 407 1 0xFFFF) ∧
    parseOperands .formatTrack [408, 0, 0] = none ∧ parseOperands .seek [19200] = none ∧
    parseOperands .claim [16] = none ∧
    parseOperands .loadTable [4, 0, 1, 7] = some (.load .monitor 0 [[7]]) ∧ parseOperands .loadTable [4, 1, 1, 7] = none ∧
    parseOperands .loadTable [5, 0, 1, 7] = none ∧ parseOperands .readTable [2, 1, 31, 16] = some (.list .remap .active 31 16) ∧
    parseOperands .readTable [2, 2, 0, 1] = none ∧ parseOperands .setDriveTarget [2] = none ∧
    parseOperands .clearSuspect [65535] = some .suspectAll ∧ parseOperands .clearSuspect [65534] = none ∧
    parseOperands .status [] = some .none := by decide +kernel

/-- O9: every claim state of an EXCLUSIVE extent, and a SHARED extent; a FORMAT-TRACK on a spare track. -/
theorem witness_ClaimCheck :
    (∀ cl ∈ [Claim.free, .held .a, .held .b, .wanted .a none, .wanted .b none, .handingOver .a true,
      .handingOver .b false], (claimed cl).claimAt 0 = some cl ∧
        (claimed cl).orderExtent (.of .write .a write1) = some (.found 0 (entry 0xEFC0 0 9599 10))) ∧
    (entry 0xEFC0 0 9599 10).exclusive = true ∧ (entry 0x89C0 9600 19199 0).exclusive = false ∧
    quiet.orderExtent (.of .formatTrack .a (frame 1 [407, 1, 0])) = none := by decide +kernel

/-- O9: a WRITE and a READ with their operands. -/
theorem witness_BufferOperands :
    (Order.of .write .a write1).operands = some (.writeData 9599 1 (List.replicate 256 0)) ∧
    (Order.of .read .a (frame 1 [0, 8])).operands = some (.sectors 0 8) := by decide +kernel

/-- O10: a word of the extent table that fails parity, for an order refused afterwards, a WRITE and a READ. -/
theorem witness_CheckingFault :
    let c := damaged badExtents
    c.runChecks (.of .write .a write1) = some .fault ∧ c.runChecks (.of .read .a (frame 1 [0, 1])) = some .fault ∧
    (c.frameTaken .a).tableFault.runChecks (.of .write .a write1) = some (.refuse .refusedRights) ∧
    (c.frameTaken .a).tableFault.runChecks (.of .read .a (frame 1 [0, 1])) = none ∧
    (c.frameTaken .a).tableFault.tagLive .a 1 = false ∧ c.drive.state.isFaulted = false ∧
    c.linkUp .a = true ∧ c.timersReadable = true := by decide +kernel

/-- O11. -/
theorem witness_Inquiries : quiet.level3 = none ∧ quiet.linkUp .a = true ∧ quiet.tagLive .a 1 = false ∧
    quiet.timersReadable = true ∧ (quiet.channelRecord .a).w0.good = true := by decide +kernel

/-- O12: each disk order at an edge of its range. -/
theorem witness_DiskOrders :
    let e1 := entry 0x89C0 9600 19199 0
    quiet.passes (.of .read .a (frame 1 [19192, 8])) = true ∧
    parseSectors [19192, 8] = some (.sectors 19192 8) ∧ quiet.extentOf (19192, 19199) = .found 1 e1 ∧
    quiet.passes (.of .verify .a (frame 1 [19199, 1])) = true ∧ quiet.passes (.of .seek .a (frame 1 [19199])) = true ∧
    parseLsa [19199] = some (.lsa 19199) ∧
    (claimed (.held .a)).passes (.of .formatTrack .a (frame 1 [199, 1, 7])) = true ∧
    parseTrack [199, 1, 7] = some (.track 199 1 7) ∧
    (claimed (.held .a)).extentOf (199 * 48 + 24, 199 * 48 + 24 + 23) = .found 0 (entry 0xEFC0 0 9599 10) ∧
    quiet.passes (.of .formatTrack .a (frame 1 [400, 0, 7])) = true ∧
    parseTrack [400, 0, 7] = some (.track 400 0 7) := by decide +kernel

/-- O13: a WRITE that may be answered early, and one that may not. -/
theorem witness_Write :
    (claimed (.held .a)).passes (.of .write .a write1) = true ∧
    parseWrite write1.words = some (.writeData 9599 1 (List.replicate 256 0)) ∧
    (claimed (.held .a)).extentOf (9599, 9599) = .found 0 (entry 0xEFC0 0 9599 10) ∧
    (entry 0xEFC0 0 9599 10).writeBehind = true ∧ (quiet.channelRecord .a).writeBehindPermitted = true ∧
    quiet.work.deferred.get .a = none ∧ (entry 0x89C0 9600 19199 0).writeBehind = false ∧
    quiet.passes (.of .write .b { frame 1 (19199 :: 1 :: List.replicate 256 3) with cls := 1 }) = true := by
  decide +kernel

/-- O14: a SYNC with and without early writes, in a Work List in acceptance order; a SYNC that is due and one that is
not. -/
theorem witness_Sync :
    let c := holding quiet [{ rec .a 1 (.write 0 1) .lingering with early := true }, rec .a 2 .sync .syncWait]
    c.passes (.of .sync .a (frame 1 [])) = true ∧ (c.records.any fun r => r.channel == .a && r.early) = true ∧
    quiet.passes (.of .sync .a (frame 1 [])) = true ∧
    (quiet.records.any fun r => r.channel == .a && r.early) = false ∧ c.sequenceSound ∧
    quiet.level3 = none ∧ (quiet.port .a).link = .attached ∧ quiet.tagLive .a 1 = false ∧
    (c.completeSyncs .a).records = c.records ∧
    ((holding quiet [rec .a 2 .sync .syncWait]).completeSyncs .a).records = [] := by
  unfold Controller.sequenceSound
  decide +kernel

/-- O15 and O16: a CLAIM in each claim state; yield limits above 0, 0 and of failing parity. -/
theorem witness_Claims :
    (∀ cl ∈ [Claim.free, .held .a, .held .b, .wanted .a none, .wanted .b none, .handingOver .a true,
      .handingOver .b false], (claimed cl).passes (.of .claim .a (frame 1 [0])) = true) ∧
    quiet.passes (.of .claim .b (frame 1 [1])) = true ∧ parseExtent [15] = some (.extent 15) ∧
    quiet.tables.active.extents[0]? = some (entry 0xEFC0 0 9599 10) ∧
    quiet.tables.active.extents[1]? = some (entry 0x89C0 9600 19199 0) ∧
    (entry 0xEFC0 0 9599 10).yieldLimit = 10 ∧ (entry 0xEFC0 0 9599 0).yieldLimit = 0 ∧
    ((damaged noYieldLimit).setClaim 0 (some (.held .b))).passes (.of .claim .a (frame 1 [0])) = true ∧
    ((damaged badYield).setClaim 0 (some (.held .b))).passes (.of .claim .a (frame 1 [0])) = true ∧
    quiet.noticesReadable .b = true := by decide +kernel

/-- O16 and O17: KEEP, YIELD and RELEASE pass their checks in every claim state. -/
theorem witness_OwnershipOrders :
    ∀ fn ∈ [Func.keep, .yield, .release], (∀ cl ∈ [Claim.free, .held .a, .held .b, .wanted .a (some 1), .wanted .b none,
      .handingOver .a true, .handingOver .b true, .handingOver .b false],
        (claimed cl).passes (.of fn .a (frame 1 [0])) = true) ∧ quiet.passes (.of fn .a (frame 1 [1])) = true := by
  decide +kernel

/-- O18: a drain with and without a write left, and a yield timer that runs. -/
theorem witness_Drain :
    (claimed (.handingOver .a true)).claimAt 0 = some (.handingOver .a true) ∧
    (rec .a 1 (.write 0 1) .lingering).isWriting = true ∧
    (claimed (.wanted .a (some 1000))).claimAt 0 = some (.wanted .a (some 1000)) ∧
    (claimed (.wanted .a (some 1000))).noticesReadable .a = true := by decide +kernel

/-- O19: a record with buffers in a sound Work List. -/
theorem witness_Leaving :
    let r := { rec .a 1 (.write 0 2) .waiting with buffers := [0, 11] }
    let c := holding quiet [r, rec .b 2 (.seek 0) .waiting]
    r ∈ c.records ∧ c.sequenceSound ∧ c.buffersSound ∧ ∀ q ∈ quiet.records, q.seq ≠ 1 := by
  unfold Controller.sequenceSound Controller.buffersSound
  decide +kernel

/-- O19: a LINGERING record, an ACTIVE one with its early mark and one without; a drain that a record's leaving ends, with
a waiter and with none; a waiter's CLAIM. -/
theorem witness_LeavingIsReported :
    let l := { rec .a 1 (.write 0 1) .lingering with early := true }
    let q := { rec .b 2 .claim .claimWait with cls := none }
    let c (w : Bool) := holding (claimed (.handingOver .a w)) [q]
    (∀ st ∈ [RecState.lingering, .active], (holding quiet [{ l with state := st }]).sequenceSound ∧
      { l with state := st } ∈ (holding quiet [{ l with state := st }]).records) ∧
    l.isWriting = true ∧ (∀ w ∈ [true, false], (c w).claimAt 0 = some (.handingOver .a w)) ∧
    ((c true).drainFalls l).claimAt 0 = some (.held .b) ∧ ((c true).drainFalls l).records = [] ∧
    ((c false).drainFalls l).claimAt 0 = some .free ∧
    (∀ r ∈ (c true).records, r.state = .claimWait → r = q) ∧ (c true).sequenceSound := by
  unfold Controller.sequenceSound
  decide +kernel

/-- O20: READ-TABLE of the staged set, of a good and of a failing active set, at the last index. -/
theorem witness_ReadTable :
    quiet.passes (.of .readTable .a (frame 1 [2, 0, 31, 16])) = true ∧
    parseList [2, 0, 31, 16] = some (.list .remap .staged 31 16) ∧
    parseList [1, 1, 0, 1] = some (.list .extent .active 0 1) ∧
    (quiet.tables.active.listed .extent 0 1).any (·.failed) = false ∧
    ((damaged badExtents).tables.active.listed .extent 0 1).any (·.failed) = true ∧
    (damaged badExtents).passes (.of .readTable .a (frame 1 [1, 1, 0, 1])) = true := by decide +kernel

/-- O21: an entry in range of each table written at its last index. -/
theorem witness_WrittenEntry :
    ∀ p ∈ [(TableId.channel, 1, ([0x1180, 16, 1023] : List Word)), (.extent, 15, [0x8000, 0, 19199, 250]),
      (.remap, 31, [0xCAFF, 383]), (.drive, 0, [1200, 600, 300, 0xC83C, 0xFF00]), (.monitor, 0, [0x4008])],
      entryInRange p.1 p.2.2 = true ∧ p.2.1 + 1 = (tables.entries p.1).length ∧
        ((tables.writeEntry p.1 p.2.1 p.2.2).entries p.1)[p.2.1]? = some (p.2.2.map .fresh) := by decide +kernel

/-- O21: LOAD-TABLE at the last extents, good entries before one out of range; COPY-ACTIVE of a good and a failing
active set; and both while a COMMIT waits. -/
theorem witness_StagedSet :
    let locked : Controller := quiet.modWork fun w => { w with commitPending := true }
    quiet.passes (.of .loadTable .a (frame 1 [1, 15, 1, 0, 0, 0, 0])) = true ∧
    parseLoad [1, 15, 1, 0, 0, 0, 0] = some (.load .extent 15 [[0, 0, 0, 0]]) ∧
    entryInRange .extent [0, 0, 0, 0] = true ∧ entryInRange .extent [0x8000, 19200, 0, 0] = false ∧
    locked.passes (.of .loadTable .a (frame 1 [1, 15, 1, 0, 0, 0, 0])) = true ∧
    locked.passes (.of .copyActive .a (frame 1 [])) = true ∧ quiet.passes (.of .copyActive .a (frame 1 [])) = true ∧
    tables.good = true ∧ (damaged badExtents).tables.active.good = false ∧
    (damaged badExtents).passes (.of .copyActive .a (frame 1 [])) = true := by decide +kernel

/-- O22: a COMMIT that passes, and one that waits with a staged set that is whole, or damaged. -/
theorem witness_Commit :
    let r := rec .a 1 .commit .commitWait
    let c := holding quiet [r]
    quiet.passes (.of .commit .a (frame 1 [])) = true ∧ r ∈ c.records ∧ c.sequenceSound ∧
    c.anyIn .active = false ∧ (holding quiet [r, rec .b 2 (.seek 0) .active]).anyIn .active = true ∧
    tables.commitFailure = none ∧ (badExtents tables).commitFailure = some (.stageDamaged, some 2) ∧
    c.noticesReadable .a = true ∧ c.noticesReadable .b = true := by
  unfold Controller.sequenceSound
  decide +kernel

/-- O22: a commit that drops a claim with a waiter, extent 0 being no longer EXCLUSIVE in the staged set; with every other
extent it is in the list of dropped numbers. -/
theorem witness_CommitDropsAClaim :
    let staged := { tables with extents := tables.extents.setIfInBounds 0 (entry 0xAFC0 0 9599 10) }
    let r := rec .a 1 .commit .commitWait
    let q := { rec .b 2 .claim .claimWait with cls := none }
    let c := (holding (claimed (.wanted .a none)) [r, q]).setTables { quiet.tables with staged := staged }
    staged.commitFailure = none ∧ c.sequenceSound ∧ (List.range 16).Pairwise (· < ·) ∧
    c.heldBy .a (List.range 16) = [0] ∧ c.waitersOn (List.range 16) = [q] ∧
    codes (after .commitQuietPoint c) .a = [.committed] ∧ codes (after .commitQuietPoint c) .b = [.revoked] ∧
    ((after .commitQuietPoint c).port .a).notices = [.claimLost 0, .tablesCommitted] := by
  unfold Controller.sequenceSound
  decide +kernel

/-- O23: extents that meet in one LSA; a remap out of order; a spare used twice. -/
theorem witness_CommitChecks :
    ({ tables with extents := tables.extents.setIfInBounds 1 (entry 0x89C0 9599 19199 0) } : TableSet).overlapAt =
      some 1 ∧ tables.overlapAt = none ∧
    ({ tables with remap := tables.remap.setIfInBounds 31 { w0 := .fresh 0x8009, w1 := .fresh 1 } } :
      TableSet).remapOrderAt = some 31 ∧
    ({ tables with remap := tables.remap.setIfInBounds 1 { w0 := .fresh 0x8007, w1 := .fresh 0 } } :
      TableSet).spareReusedAt = some 1 := by decide +kernel

/-- O22: the reasons of a failed commit, each with its index: set position 2 is extent 0, and a remap position out of
range is named by its set position. -/
theorem witness_CommitFailures :
    let manage (w0 : Word) : TableSet := { tables with channels := { a := record w0, b := record 0x58C0 } }
    (badExtents tables).commitFailure = some (.stageDamaged, some 2) ∧
    ({ tables with extents := tables.extents.setIfInBounds 15 (entry 0x8000 2 1 0) } : TableSet).commitFailure =
      some (.bounds, some 15) ∧
    ({ tables with remap := tables.remap.setIfInBounds 31 { w0 := .fresh 0x8009, w1 := .fresh 384 } } :
      TableSet).commitFailure = some (.bounds, some 49) ∧
    ({ tables with remap := tables.remap.setIfInBounds 31 { w0 := .fresh 0x8009, w1 := .fresh 1 } } :
      TableSet).commitFailure = some (.remapOrder, some 31) ∧
    (manage 0x48C0).commitFailure = some (.noManager, none) ∧ (manage 0xC8C0).commitFailure = none := by decide +kernel

/-- O24: target ON and OFF from ON, from OFF, from STOPPED, and from a turning FAULTED. -/
theorem witness_SetDriveTarget :
    let off := quiet.modDrive fun d => { d with targetOn := false }
    quiet.passes (.of .setDriveTarget .a (frame 1 [0])) = true ∧ parseTarget [0] = some (.target false) ∧
    parseTarget [1] = some (.target true) ∧ off.passes (.of .setDriveTarget .a (frame 1 [1])) = true ∧
    (inState off .stopped).passes (.of .setDriveTarget .a (frame 1 [1])) = true ∧
    (inState off .stopped).drive.coolDown = none ∧ quiet.drive.clearing = false ∧ quiet.sequenceSound ∧
    (inState quiet (.faulted .recal)).drive.state.isFaulted = true ∧ quiet.drive.restedOff = false ∧
    (inState (quiet.modDrive fun d => { d with atRest := true, restedOff := true }) (.faulted .spinUp)).passes
      (.of .setDriveTarget .a (frame 1 [0])) = true := by
  unfold Controller.sequenceSound
  decide +kernel

/-- O24: target OFF in every other state of the drive, with the flush done; in READY with a record to flush, and with a
clearing in progress. -/
theorem witness_TargetOff :
    let off := Instr.setDriveTarget .a (frame 1 [0])
    (∀ d ∈ [SeqState.parked, .cooling, .stopped, .spinningUp, .loadingHeads, .unloading, .spinningDown],
      (inState quiet d).passes (.of .setDriveTarget .a (frame 1 [0])) = true ∧
      (after off (inState quiet d)).drive.state = if d = .parked then .spinningDown else d) ∧
    (after off (holding quiet [rec .a 1 (.write 0 1) .lingering])).drive.state = .ready ∧
    (after off (quiet.modDrive fun d => { d with clearing := true })).drive.state = .ready := by decide +kernel

/-- O25. -/
theorem witness_ClearingOrders :
    quiet.passes (.of .clearDeferred .a (frame 1 [])) = true ∧
    quiet.passes (.of .clearSuspect .a (frame 1 [19199])) = true ∧
    parseSuspect [19199] = some (.suspect 19199) ∧ quiet.passes (.of .clearSuspect .a (frame 1 [65535])) = true ∧
    parseSuspect [65535] = some .suspectAll ∧ quiet.passes (.of .clearMonitor .a (frame 1 [])) = true ∧
    quiet.tables.active.monitor.w0.good = true := by decide +kernel

/-- O26 and O27: links in each state; a channel without management; all records of a channel. -/
theorem witness_Resets :
    let recovering := after (.resetLevel1 .a) quiet
    (recovering.port .a).link = .recovering ∧ (recovering.port .a).escalation ≠ none ∧
    (quiet.port .a).link = .attached ∧ ((Controller.powerOn true true false).port .a).link = .detached ∧
    recovering.noticesReadable .a = true ∧ recovering.noticesReadable .b = true ∧ recovering.level3 = none ∧
    recovering.sequenceSound ∧ (quiet.channelRecord .b).management = false ∧
    (quiet.channelRecord .b).w0.good = true := by
  unfold Controller.sequenceSound
  decide +kernel

/-- O27: the ACTIVE record of the other channel at a level-2 reset, in a recalibration and in a search. -/
theorem witness_LevelTwo :
    ∀ p ∈ [Phase.recalibrating 1 true, .searching 0],
      (working (rec .b 1 (.read 72 1) .active) p).engine.work.map (·.phase) = some p ∧
      (working (rec .b 1 (.read 72 1) .active) p).timersReadable = true := by decide +kernel

/-- O28: a level-3 reset about to be taken, in progress with records to flush, and with its flush done. -/
theorem witness_LevelThree :
    let c := after (.resetLevel3 .a) quiet
    (quiet.channelRecord .a).management = true ∧ (quiet.channelRecord .a).w0.good = true ∧ quiet.level3 = none ∧
    c.level3 = some .a ∧ c.anyIn .active = false ∧ c.anyIn .lingering = false ∧
    (holding c [rec .a 1 (.write 0 1) .lingering]).anyIn .lingering = true ∧
    c.tables.active.monitor.w0.good = true ∧ c.timersReadable = true := by decide +kernel

/-- O29: each kind of frame at its last word, one with two words left, none; a stall with sectors unsent and with all
sent. -/
theorem witness_Outbound :
    ((sending (some { source := .notice, words := [1, 2] })).port .a).out =
      some { source := .notice, words := [1, 2] } ∧
    ((sending (some { source := .answer, words := [1] })).port .a).out = some { source := .answer, words := [1] } ∧
    (∀ src ∈ [FrameSource.data, .deliveryAnswer],
      ((delivering delivered (some { source := src, words := [1] })).port .a).out =
        some { source := src, words := [1] } ∧
      ((delivering delivered (some { source := src, words := [1] })).port .a).delivery.head?.bind
        (delivering delivered none).findRecord = some delivered) ∧
    delivered.sent < delivered.done ∧ delivered.prepared.isSome = true ∧
    ((delivering { delivered with sent := 1 } none).port .a).stall ≠ none ∧ (quiet.port .a).stall = none ∧
    (delivering delivered none).sequenceSound := by
  unfold Controller.sequenceSound
  decide +kernel

/-- O29: a frame of a delivery in progress at a stall; frames at a reset, at a link's fall and at the level-3 values; a
stopped frame whose word waits. -/
theorem witness_StoppedFrames :
    let c := delivering delivered (some { source := .data, words := [1, 2] })
    (c.port .a).stall ≠ none ∧ ((c.port .a).delivery.head?.bind c.findRecord).map (·.channel) = some .a ∧
    (c.port .a).link ≠ .detached ∧ c.level3 = none ∧
    ((sending (some { source := .stopped, words := [1] })).port .a).out = some { source := .stopped, words := [1] } ∧
    ({ sending (some { source := .notice, words := [1] }) with level3 := some .b } : Controller).anyIn .active = false ∧
    ({ sending (some { source := .notice, words := [1] }) with level3 := some .b } : Controller).anyIn .lingering =
      false := by decide +kernel

/-- O30, O31 and O32: an eligible record that passes its re-check, one that fails it, in READY and in PARKED; a bypass
limit reached and not. -/
theorem witness_Arbiter :
    let r := rec .a 1 (.read 48 1) .waiting
    let c := holding quiet [r]
    let w := rec .a 1 (.write 48 1) .waiting
    let l := { rec .a 1 (.write 48 1) .lingering with early := true }
    c.sequenceSound ∧ c.tables.active.drive.w4.good = true ∧ c.anyIn .active = false ∧ c.drive.state = .ready ∧
    c.drive.clearing = false ∧ c.records.filter c.eligible = [r] ∧ c.tables.active.drive.bypassLimit = 6 ∧
    c.pick (some 6) [r] = some (r, .upward) ∧ c.recheckOnce r = .pass (some 0) false ∧
    (holding quiet [w]).pick (some 6) [w] = some (w, .upward) ∧ (holding quiet [w]).recheckOnce w = .fail ∧
    (holding quiet [w]).records.filter (holding quiet [w]).eligible = [w] ∧
    (holding quiet [l]).pick (some 6) [l] = some (l, .upward) ∧ (holding quiet [l]).recheckOnce l = .fail ∧
    c.pick (some 6) [{ r with bypass := 5 }, { r with seq := 2, bypass := 6 }] =
      some ({ r with seq := 2, bypass := 6 }, .upward) := by
  unfold Controller.sequenceSound
  decide +kernel

/-- O32: a range in an extent and out of all; a FORMAT-TRACK on a spare track. -/
theorem witness_Recheck :
    (rec .a 1 (.read 48 1) .waiting).job.range = some (48, 48) ∧
    quiet.extentOf (48, 48) = .found 0 (entry 0xEFC0 0 9599 10) ∧ quiet.extentOf (9599, 9600) = .notFound ∧
    (rec .a 1 (.formatTrack 400 0 0) .waiting).job.range = none ∧
    (rec .a 1 (.formatTrack 399 1 0) .waiting).job.range = some (19176, 19199) := by decide +kernel

/-- O32: a choice in READY with a failing word of the bypass limit, with one that the re-check meets, and with a record
that fails while another is eligible. -/
theorem witness_WholeChoice :
    let r := rec .a 1 (.read 48 1) .waiting
    let w := rec .a 2 (.write 48 1) .waiting
    let limit := holding (damaged badRetry) [r]
    let bad := holding (damaged badExtents) [r]
    let two := holding quiet [{ w with seq := 1 }, { r with seq := 2, job := .read 96 1 }]
    limit.tables.active.drive.w4.good = false ∧ (limit.tableFault.pick none [r]) = some (r, .upward) ∧
    limit.tableFault.recheckOnce r = .pass (some 0) false ∧
    bad.pick (some 6) [r] = some (r, .upward) ∧ bad.recheckOnce r = .fault ∧
    bad.tableFault.recheckOnce r = .pass (some 0) false ∧
    two.records.filter two.eligible = two.records ∧
    two.pick (some 6) two.records = some ({ w with seq := 1 }, .upward) ∧ two.recheckOnce { w with seq := 1 } = .fail ∧
    two.sequenceSound ∧ ((after .arbiterChoice two).records.map (·.state)) = [.active] ∧
    codes (after .arbiterChoice two) .a = [.revoked] ∧
    ((after .arbiterChoice limit).records.map (·.state)) = [.active] ∧
    (after .arbiterChoice bad).tables.mode = .fallback .tableFault := by
  unfold Controller.sequenceSound
  decide +kernel

/-- A block in which extent 1 grants A every right, A's claim of extent 0 is being handed over to B, and the one write
that counts in that drain has its range in extent 1. -/
def movedWrite (rights : Word) : Controller :=
  (holding ((damaged fun t => { t with extents := t.extents.setIfInBounds 1 (entry rights 9600 19199 0) }).setClaim 0
    (some (.handingOver .a true)))
    [{ rec .a 1 (.write 9600 1) .lingering with early := true, buffers := [0] },
      { rec .b 2 .claim .claimWait with cls := none }])

/-- R52, R59, R78: the number of the extent found replaces the recorded one at dispatch, and the drain that the write
leaves by this ends in that step; likewise where the write then fails the re-check. -/
theorem test_dispatchMovesTheRecordOutOfItsDrain :
    let passed := after .arbiterChoice (movedWrite 0x8FC0)
    let failed := after .arbiterChoice (movedWrite 0x89C0)
    (∀ c ∈ [passed, failed], c.claimAt 0 = some (.held .b) ∧ codes c .b = [.granted]) ∧
    (passed.records.map fun r => (r.state, r.extent)) = [(.active, some 1)] ∧ failed.records = [] := by
  decide +kernel

/-- O30 and O32: the record of movedWrite passes, or fails, and its extent is found elsewhere; a range in no extent. -/
theorem witness_Resolve :
    let passes := movedWrite 0x8FC0
    let fails := movedWrite 0x89C0
    (∀ c ∈ [passes, fails], c.sequenceSound ∧ c.records.filter c.eligible = c.records.take 1) ∧
    (∀ q ∈ passes.records.take 1, q.job.range = some (9600, 9600) ∧
      passes.recheckOnce q = .pass (some 1) false ∧ fails.recheckOnce q = .fail) ∧
    passes.extentOf (9600, 9600) = .found 1 (entry 0x8FC0 9600 19199 0) ∧
    quiet.extentOf (9599, 9600) = .notFound := by
  unfold Controller.sequenceSound
  decide +kernel

/-- O33 and O34: positions before, at and after an LSA; one of failing parity; the three ways of positioning. -/
theorem witness_Translation :
    Machine.translate 7 tables.remap.toList = some (spareLocation 383) ∧
    Machine.translate 6 tables.remap.toList = some (directLocation 6) ∧
    Machine.translate 7 (badRemap tables).remap.toList = none ∧
    (∀ p ∈ tables.remap.toList.take 1, p.good = true ∧ p.used = true ∧ p.lsa < 7) ∧
    (working (rec .a 1 (.read 7 1) .active) .reading).engine.work.isSome = true ∧
    ((working (rec .a 1 (.read 7 1) .active) .reading).findRecord 1).isSome = true := by decide +kernel

/-- O35: the end of the loading recalibration with the target ON and OFF; the Engine's two waits. -/
theorem witness_Seeks :
    let loading := inState (quiet.modDrive fun d => { d with recalWait := some 800 }) .loadingHeads
    let c (p : Phase) := working (rec .a 1 (.seek 19199) .active) p
    loading.drive.state = .loadingHeads ∧ loading.drive.recalWait ≠ none ∧ loading.anyIn .lingering = false ∧
    ((c (.seeking 399)).engine.work.map (·.phase)) = some (.seeking 399) ∧
    (∀ forMark ∈ [true, false],
      ((c (.recalibrating 0 forMark)).engine.work.map (·.phase)) = some (.recalibrating 0 forMark)) ∧
    (c (.seeking 399)).drive.state ≠ .loadingHeads ∧ ((c (.seeking 399)).findRecord 1).isSome = true := by
  decide +kernel

/-- O36 to O38: the searches for a read, a write and a reread; pulses; a buffer in hand; FALLBACK; a retry limit. -/
theorem witness_Searches :
    let r := { rec .a 1 (.write 72 1) .active with buffers := [11] }
    let c := working r (.searching 0) fun w => { w with purpose := .write }
    c.engine.work.map (·.purpose) = some .write ∧ c.engine.work.bind (·.inHand) =
      some { lsa := 72, loc := { cylinder := 1, head := 1, sector := 0 } } ∧ r.buffers[r.done]? = some 11 ∧
    c.inFallback = false ∧ fallen.inFallback = true ∧ c.drive.state = .ready ∧
    (c.modDrive fun d => d.pulse 24500).drive.outOfTolerance < 2 ∧
    (c.modDrive fun d => d.pulse 24499).drive.outOfTolerance = 1 ∧
    c.tables.active.drive.retryLimit = 8 ∧ c.tables.active.drive.w4.good = true ∧
    (damaged badRetry).tables.active.drive.w4.good = false ∧ (damaged badRetry).timersReadable = true := by
  decide +kernel

/-- O39 and O40: a format at its first, its next-to-last and its last slot, logical and spare; no work at all. -/
theorem witness_Formats :
    let c (cyl slot : Nat) := working (rec .a 1 (.formatTrack cyl 1 7) .active) (.formatting slot)
    ((c 399 22).engine.work.map (·.phase)) = some (.formatting 22) ∧
    ((c 400 23).engine.work.map (·.phase)) = some (.formatting 23) ∧
    ((working (rec .a 1 (.formatTrack 0 0 7) .active) .awaitingIndex).engine.work.map (·.phase)) =
      some .awaitingIndex ∧ quiet.engine.work = none ∧
    (codes (after .formatSlotWritten (c 400 23)) .a) = [.done] := by decide +kernel

/-- O41 and O42: every outcome on every kind of record. -/
theorem witness_Outcomes :
    let c (r : Record) := working r .reading
    ((c (rec .a 1 (.read 0 2) .active)).findRecord 1).isSome = true ∧
    codes ((c (rec .a 1 (.read 0 2) .active)).hardError .header) .a = [.short] ∧
    codes ((c { rec .a 1 (.write 0 2) .active with silent := true }).hardError .header) .a = [] ∧
    ((c { rec .a 1 (.write 0 2) .active with early := true }).hardError .header).work.deferred.get .a =
      some { tag := 101, lsa := 0, kind := .header, further := 0 } ∧
    codes ((c (rec .a 1 (.verify 0 2) .active)).endByStop (.level2 .b)) .a = [.aborted] ∧
    codes ({ c (rec .a 1 (.read 0 2) .active) with level3 := some .b }.hardError .header) .a = [.reset] := by
  decide +kernel

/-- O43: a list with and without the LSA and full; a window at its 63rd and 64th read, below and above the threshold. -/
theorem witness_MediaWatch :
    let full := quiet.setMedia { quiet.media with
      suspects := (List.range 8).map fun n => { lsa := n, kind := .soft, count := 15, channel := .a } }
    full.media.suspects.length = 8 ∧ (∃ e ∈ full.media.suspects, e.lsa = 7) ∧
    (∀ e ∈ full.media.suspects, e.lsa ≠ 8) ∧ (full.reportSuspect 8 .torn .a).media.suspectOverflow = true ∧
    (damaged badMonitor).tables.active.monitor.w0.good = false ∧
    ((quiet.setMedia { quiet.media with counted := 63, retried := 4, consecutive := 2 }).countRead true).media.degraded =
      true ∧
    ((quiet.setMedia { quiet.media with counted := 63, retried := 4, consecutive := 1 }).countRead
      true).media.consecutive = 2 ∧
    ((quiet.setMedia { quiet.media with counted := 63, retried := 3, consecutive := 2 }).countRead
      true).media.consecutive = 0 ∧
    ((quiet.setMedia { quiet.media with counted := 62 }).countRead true).media.counted = 63 := by decide +kernel

/-- O44: a fallback entry that keeps the Remap Table and one that empties it; claims with and without a waiter. -/
theorem witness_Fallback :
    quiet.sequenceSound ∧ fallen.tables.active.remap = tables.remap ∧ fallen.tables.remapUnconfirmed = false ∧
    (quiet.fallbackEntry .packChanged).tables.remapUnconfirmed = true ∧
    ((claimed (.held .a)).claimAt 0).bind (·.holder) = some .a ∧
    ((claimed (.wanted .a none)).claimAt 0).bind (·.waiter) = some .b := by
  unfold Controller.sequenceSound
  decide +kernel

/-- O45 and O46: a spindle commanded on; a cool-down that runs in STOPPED; COOLING with a cool-down, the interlock
locked and unlocked, LOADING-HEADS with its timer; READY with an idle timer, UNLOADING, PARKED, FAULTED and
SPINNING-DOWN. -/
theorem witness_UpAndDown :
    let down := quiet.modDrive fun d => { d with spindleOn := false, targetOn := false }
    (Controller.powerOn true true false).drive.coolDown ≠ none ∧
    (Controller.powerOn true true false).drive.interlockLocked = false ∧ quiet.drive.interlockLocked = true ∧
    quiet.tables.active.drive.w0.good = true ∧ quiet.tables.active.drive.w1.good = true ∧ quiet.drive.idle ≠ none ∧
    (inState quiet .stopped).drive.state = .stopped ∧ (inState down .spinningDown).drive.spindleOn = false ∧
    (inState down .spinningDown).drive.atRest = false ∧ quiet.drive.cartridgeLine = quiet.drive.cartridgePresent ∧
    down.anyIn .active = false ∧ down.anyIn .lingering = false ∧
    (damaged badSpinUp).timersReadable = true ∧ (damaged badCoolDown).timersReadable = true ∧
    (damaged badCoolDown).tables.active.drive.w1.good = false ∧ quiet.drive.spindleOn = true ∧
    (inState (quiet.modDrive fun d => { d with coolDown := some 1 }) .stopped).drive.coolDown ≠ none ∧
    (after .targetOffFlushDone (inState (down.modDrive fun d => { d with restedOff := true, coolDown := some 20000 })
      (.faulted .spinUp))).drive.state = .cooling ∧
    (after .targetOffFlushDone (inState down (.faulted .recal))).drive.state = .spinningDown ∧
    (after .targetOffFlushDone (inState (down.modDrive fun d => { d with restedOff := true })
      (.faulted .spinUp))).drive.state = .stopped := by decide +kernel

/-- O47: revolutions of 24.5 and 25.5 ms and just beyond; lock at the eighth; a speed fault at the second. -/
theorem witness_Pulses :
    let up := inState (quiet.modDrive fun d => { d with inTolerance := 7 }) .spinningUp
    let slow := quiet.modDrive fun d => { d with outOfTolerance := 1 }
    (after (.indexPulse 24500 true) up).drive.state = .loadingHeads ∧
    (after (.indexPulse 25500 true) up).drive.state = .loadingHeads ∧
    (after (.indexPulse 25500 false) up).drive.state = .spinningUp ∧
    (after (.indexPulse 25501 true) slow).drive.state = .spinningUp ∧
    (after (.indexPulse 24499 true) slow).drive.state = .spinningUp ∧
    quiet.engine.work = none ∧ quiet.drive.atRest = false ∧ quiet.drive.pulseSeen = true ∧
    (damaged badSpinUp).tables.active.drive.w0.good = false ∧ (damaged badSpinUp).timersReadable = true ∧
    codes (after .missingPulse ((working { rec .a 1 (.write 72 1) .active with buffers := [0] } .writing).modDrive
      fun d => { d with outOfTolerance := 1 })) .a = [.driveFault] := by decide +kernel

/-- O48 to O50: the timers and lines that end in FAULTED or take the drive down, and the records that wait on it. -/
theorem witness_Faults :
    let up := inState (quiet.modDrive fun d => { d with spinUp := some 1, readyWait := some 1 }) .spinningUp
    up.drive.spinUp ≠ none ∧ up.drive.readyWait ≠ none ∧ up.sequenceSound ∧ up.drive.restedOff = false ∧
    up.anyIn .syncWait = false ∧ up.claimAt 0 = some .free ∧
    (quiet.modDrive fun d => { d with clearing := true, clearCount := 2 }).drive.clearCount < 3 ∧
    (inState quiet (.faulted .spinUp)).passes (.of .read .a (frame 1 [0, 1])) = true ∧
    (inState quiet (.faulted .spinUp)).drive.state.isFaulted = true ∧ up.noticesReadable .a = true ∧
    up.noticesReadable .b = true := by
  unfold Controller.sequenceSound
  decide +kernel

/-- O48: FAULTED entered with the target OFF and the spindle at rest; a fault clearing with the target OFF, with the
flush done and with a record to flush. -/
theorem witness_Clearing :
    let faults (coolDown : Timer) := inState (quiet.modDrive fun d =>
      { d with spinUp := some 1, targetOn := false, restedOff := true, coolDown := coolDown }) .spinningUp
    (after .spinUpLimitExpiry (faults none)).drive.state = .stopped ∧
    (after .spinUpLimitExpiry (faults (some 20000))).drive.state = .cooling ∧
    let c := quiet.modDrive fun d => { d with clearing := true, clearCount := 2, targetOn := false }
    (after (.faultClearWaitExpiry false) c).drive.state = .unloading ∧
    (after (.faultClearWaitExpiry false) (holding c [rec .a 1 (.write 0 1) .lingering])).drive.state = .ready := by
  decide +kernel

/-- O50: in FAULTED, each disk order passes its checks; a WRITE that is answered early, and one that is not; a
FORMAT-TRACK on a spare track. -/
theorem witness_Faulted :
    let c := inState (claimed (.held .a)) (.faulted .recal)
    (∀ r ∈ c.records, r.isDisk = true → r.state ≠ .waiting ∧ r.state ≠ .lingering) ∧
    c.passes (.of .verify .a (frame 1 [9599, 1])) = true ∧ c.passes (.of .seek .a (frame 1 [0])) = true ∧
    c.passes (.of .formatTrack .a (frame 1 [199, 1, 7])) = true ∧
    c.passes (.of .formatTrack .a (frame 1 [400, 1, 7])) = true ∧ c.passes (.of .write .a write1) = true ∧
    c.passes (.of .write .b { frame 1 (19199 :: 1 :: List.replicate 256 3) with cls := 1 }) = true ∧
    (after (.write .a write1) c).work.deferred.get .a = some { tag := 1, lsa := 9599, kind := .seek, further := 0 } ∧
    codes (after (.write .a write1) c) .a = [.done] ∧ codes (after (.verify .a (frame 1 [9599, 1])) c) .a =
      [.driveFault] := by decide +kernel

/-- The claim condition, extent by extent. -/
theorem claimsSound_of {c : Controller}
    (h : ∀ n : Fin 16, (c.claimAt n).isSome = (c.tables.active.extents[n]).claimable) : c.claimsSound := by
  intro n e he
  obtain ⟨hn, rfl⟩ := Vector.getElem?_eq_some_iff.mp he
  exact h ⟨n, hn⟩

/-- O51 to O59: a state in FALLBACK from which a step goes on; the conditions that steps keep hold of a block with
records. -/
theorem witness_Kept :
    let c := holding quiet [{ rec .a 1 (.write 0 2) .active with buffers := [0, 11] }, rec .b 2 (.seek 0) .waiting]
    fallen.inFallback = true ∧ c.sequenceSound ∧ c.listSound ∧ c.oneActive ∧ c.buffersSound ∧ c.noticesSound ∧
    c.suspectsSound ∧ c.interlockSound ∧ c.unconfirmedSound ∧ c.claimsSound ∧ c.deliverySound ∧ c.commitSound ∧
    ∃ t, step { ctl := c, pending := [.arbiterChoice] } = .next t := by
  refine ⟨by decide +kernel, ?_, ?_, ?_, ?_, ?_, ?_, ?_, ?_, ?_, ?_, ?_, ⟨_, rfl⟩⟩
  · unfold Controller.sequenceSound; decide +kernel
  · unfold Controller.listSound; decide +kernel
  · unfold Controller.oneActive; decide +kernel
  · unfold Controller.buffersSound; decide +kernel
  · unfold Controller.noticesSound Port.noticesSound; decide +kernel
  · unfold Controller.suspectsSound; decide +kernel
  · unfold Controller.interlockSound; decide +kernel
  · unfold Controller.unconfirmedSound; decide +kernel
  · exact claimsSound_of (by decide +kernel)
  · intro ch n
    cases ch <;> simp +decide [quiet, holding, attached, Controller.port, PerChannel.get, Controller.records, Port.powerOn]
  · unfold Controller.commitSound; decide +kernel

/-- O59: a block with an ACTIVE record and the Engine at work on it. -/
theorem witness_EngineSound : (working (rec .a 1 (.read 72 1) .active) .reading).engineSound := by
  refine ⟨⟨_, List.mem_singleton.mpr rfl, rfl⟩, ?_⟩
  intro r h
  rw [List.mem_singleton.mp h]
  decide

end Sys2Proof.Tests
end

section
/-! SUPPORT. READ-TABLE (R19, R37): what its answer lists, what its acceptance does for each set, and the settling of
ReadTableListsEntries. -/

namespace Sys2Proof.Machine

/-- An entry is marked failed where one of its words fails parity (R37). -/
theorem listedEntry_eq (ws : List TWord) :
    listedEntry ws = { words := ws.map (·.value), failed := ws.any fun w => !w.good } := by
  simp only [listedEntry, wordsGood, List.not_all_eq_any_not]

/-- The list of an answer: from the start index, at most count entries, each with its words and its mark (R37). -/
theorem TableSet.listed_eq (t : TableSet) (table : TableId) (start count : Nat) :
    t.listed table start count = (((t.entries table).drop start).take count).map fun ws =>
      { words := ws.map (·.value), failed := ws.any fun w => !w.good } := by
  simp only [TableSet.listed, ← listedEntry_eq]

namespace Controller

/-- A READ-TABLE of the staged set is answered and nothing more, failed words or not (R37). -/
theorem acceptReadTable_staged {c : Controller} {o : Order} {table : TableId} {start count : Nat}
    (h : o.operands = some (.list table .staged start count)) :
    c.acceptReadTable o =
      c.placeAnswer o.channel (tableAnswer o start (c.tables.staged.listed table start count)) := by
  simp [acceptReadTable, h, TableStore.setOf]

/-- A READ-TABLE of the active set is answered; where a listed entry is marked failed the table fault comes after
the answer (R37). -/
theorem acceptReadTable_active {c : Controller} {o : Order} {table : TableId} {start count : Nat}
    (h : o.operands = some (.list table .active start count)) :
    c.acceptReadTable o =
      let es := c.tables.active.listed table start count
      let answered := c.placeAnswer o.channel (tableAnswer o start es)
      if es.any (·.failed) then answered.tableFault else answered := by
  simp [acceptReadTable, h, TableStore.setOf]

/-- An answer placed when the frame has been taken leaves the timers' words as they were. -/
theorem placeAnswer_frameTaken_timersReadable (c : Controller) (ch d : Channel) (a : Answer) :
    ((c.frameTaken ch).placeAnswer d a).timersReadable = c.timersReadable :=
  ((frameTaken_sameRest c ch).trans (placeAnswer_sameRest _ d a)).timersReadable

end Controller

/-- A READ-TABLE that passes its checks is accepted once its frame is taken (R20). -/
theorem readTable_effect {c : Controller} {ch : Channel} {f : OrderFrame}
    (h : c.passes (.of .readTable ch f) = true) :
    (Instr.readTable ch f).effect c = (c.frameTaken ch).acceptReadTable (.of .readTable ch f) :=
  Controller.order_accepted _ h

/-- Settles O20: the acceptance of each set, with the answer's list spelled out. -/
theorem readTableListsEntries : Obligations.ReadTableListsEntries := by
  intro ch f s table start count readable passes listed answered
  have good (es : List ListedEntry) : (answered es).timersReadable = true :=
    (Controller.placeAnswer_frameTaken_timersReadable ..).trans readable
  have active (p : parseList f.words = some (.list table .active start count)) :
      (Instr.readTable ch f).effect s.ctl =
        let es := listed s.ctl.tables.active
        if es.any (·.failed) then (answered es).tableFault else answered es := by
    rw [readTable_effect passes, Controller.acceptReadTable_active (o := .of .readTable ch f) p,
      TableSet.listed_eq]
    rfl
  refine ⟨fun p => ?staged, fun p => ⟨fun allGood => ?activeGood, fun failed => ?activeFailed⟩⟩
  case staged =>
    refine gives_of_effect ?_ (good _)
    rw [readTable_effect passes, Controller.acceptReadTable_staged (o := .of .readTable ch f) p,
      TableSet.listed_eq]
    rfl
  case activeGood =>
    have noneFailed : (listed s.ctl.tables.active).any (·.failed) = false := by
      simpa using allGood
    exact gives_of_effect (by simp [active p, noneFailed]) (good _)
  case activeFailed =>
    refine gives_of_effect (by simp [active p, failed]) ?_
    exact (Controller.tableFault_sameRest _).timersReadable.trans (good _)

end Sys2Proof.Machine
end

section
/-! SUPPORT. The commit checks of R148 and R149: what the first index at which a test holds is, what the tests of
overlap, order and reuse say of a position and those before it, and the settling of CommitChecksFindTheFirst. -/

namespace Sys2Proof.Machine

section FirstIndex

variable {α : Type}

/-- The test holds of the element at an index of the list. -/
def testHoldsAt (p : Nat → α → Bool) (l : List α) (i : Nat) : Prop := ∃ a, l[i]? = some a ∧ p i a = true

/-- The first index is the least one at which the test holds. -/
theorem firstIndex_eq_some_iff {p : Nat → α → Bool} {l : List α} {i : Nat} :
    firstIndex p l = some i ↔ testHoldsAt p l i ∧ ∀ k, k < i → ¬testHoldsAt p l k := by
  simp only [firstIndex, Option.map_eq_some_iff, List.find?_eq_some_iff_getElem, List.getElem_zipIdx, Nat.zero_add]
  constructor
  · rintro ⟨_, ⟨holds, n, hn, rfl, least⟩, rfl⟩
    rw [List.length_zipIdx] at hn
    refine ⟨⟨l[n], List.getElem?_eq_getElem hn, holds⟩, ?_⟩
    rintro k hk ⟨a, ha, holdsAtK⟩
    obtain ⟨_, rfl⟩ := List.getElem?_eq_some_iff.mp ha
    simpa [holdsAtK] using least k hk
  · rintro ⟨⟨a, ha, holds⟩, least⟩
    obtain ⟨hi, rfl⟩ := List.getElem?_eq_some_iff.mp ha
    refine ⟨(l[i], i), ⟨holds, i, by simpa using hi, rfl, fun k hk => ?_⟩, rfl⟩
    have fails : p k l[k] ≠ true := fun h => least k hk ⟨l[k], List.getElem?_eq_getElem (hk.trans hi), h⟩
    simpa using fails

/-- A property that says where the test holds says what its first index is. -/
theorem firstIndex_eq_some_iff_of {p : Nat → α → Bool} {l : List α} {fails : Nat → Prop}
    (h : ∀ k, testHoldsAt p l k ↔ fails k) (i : Nat) :
    firstIndex p l = some i ↔ fails i ∧ ∀ k, k < i → ¬fails k := by
  simp only [firstIndex_eq_some_iff, h]

/-- A test holds of some element before index `i`. -/
theorem any_take_iff {q : α → Bool} {l : List α} {i : Nat} :
    (l.take i).any q = true ↔ ∃ j d, j < i ∧ l[j]? = some d ∧ q d = true := by
  simp only [List.any_eq_true, List.mem_iff_getElem?]
  constructor
  · rintro ⟨d, ⟨j, hj⟩, hq⟩
    rw [List.getElem?_take, Option.ite_none_right_eq_some] at hj
    obtain ⟨before, hd⟩ := hj
    exact ⟨j, d, before, hd, hq⟩
  · rintro ⟨j, d, before, hd, hq⟩
    exact ⟨d, ⟨j, by rwa [List.getElem?_take_of_lt before]⟩, hq⟩

/-- What stands last before an element of the list is its left neighbour. -/
theorem getLast?_take_succ {l : List α} {i : Nat} {a : α} (h : l[i + 1]? = some a) :
    (l.take (i + 1)).getLast? = l[i]? := by
  have hi : i < l.length := Nat.lt_of_succ_lt (List.getElem?_eq_some_iff.mp h).1
  simp [List.getLast?_take, hi]

end FirstIndex

/-- Two entries overlap where both are valid and the ranges meet, boundaries included (R148). -/
theorem extentsOverlap_iff {e d : ExtentEntry} :
    extentsOverlap e d = true ↔
      e.valid = true ∧ d.valid = true ∧ e.firstLsa ≤ d.lastLsa ∧ d.firstLsa ≤ e.lastLsa := by
  simp [extentsOverlap, and_assoc]

/-- A position with another before it is out of order where it is used and that one is unused or has no smaller LSA
(R149). -/
theorem remapOutOfOrder_some_iff {e d : RemapEntry} :
    remapOutOfOrder e (some d) = true ↔ e.used = true ∧ (d.used = false ∨ e.lsa ≤ d.lsa) := by
  simp [remapOutOfOrder]

/-- The first position of the Remap Table is never out of order: it has none before it. -/
theorem remapOutOfOrder_none (e : RemapEntry) : remapOutOfOrder e none = false := by
  simp [remapOutOfOrder]

namespace TableSet

/-- Extent `i` shares an LSA with a valid extent of smaller index, both boundaries inclusive (R148). -/
def overlapsEarlier (t : TableSet) (i : Nat) : Prop :=
  ∃ e d j, j < i ∧ t.extents[i]? = some e ∧ t.extents[j]? = some d ∧
    e.valid = true ∧ d.valid = true ∧ e.firstLsa ≤ d.lastLsa ∧ d.firstLsa ≤ e.lastLsa

/-- Remap position `i + 1` is used and the one before it is unused or has no smaller LSA (R149). -/
def disorderedAfter (t : TableSet) (i : Nat) : Prop :=
  ∃ e d, t.remap[i + 1]? = some e ∧ t.remap[i]? = some d ∧ e.used = true ∧ (d.used = false ∨ e.lsa ≤ d.lsa)

/-- Remap position `i` is used and has the spare index of a used one of smaller index (R149). -/
def reusesSpare (t : TableSet) (i : Nat) : Prop :=
  ∃ e d j, j < i ∧ t.remap[i]? = some e ∧ t.remap[j]? = some d ∧
    e.used = true ∧ d.used = true ∧ e.spare = d.spare

/-- The test of the overlap check at an extent: against each of smaller index. -/
def overlapTest (t : TableSet) (i : Nat) (e : ExtentEntry) : Bool :=
  (t.extents.toList.take i).any (extentsOverlap e)

/-- The overlap check is the first index of its test. -/
theorem overlapAt_eq (t : TableSet) : t.overlapAt = firstIndex t.overlapTest t.extents.toList := rfl

/-- The overlap test holds where an extent overlaps one of smaller index. -/
theorem overlapTest_iff (t : TableSet) (i : Nat) :
    testHoldsAt t.overlapTest t.extents.toList i ↔ t.overlapsEarlier i := by
  simp only [testHoldsAt, overlapTest, any_take_iff, extentsOverlap_iff, Vector.getElem?_toList]
  constructor
  · rintro ⟨e, he, j, d, hj, hd, meet⟩
    exact ⟨e, d, j, hj, he, hd, meet⟩
  · rintro ⟨e, d, j, hj, he, hd, meet⟩
    exact ⟨e, he, j, d, hj, hd, meet⟩

/-- The overlap check finds the first extent that overlaps one of smaller index (R148). -/
theorem overlapAt_eq_some_iff (t : TableSet) (i : Nat) :
    t.overlapAt = some i ↔ t.overlapsEarlier i ∧ ∀ k, k < i → ¬t.overlapsEarlier k := by
  rw [overlapAt_eq, firstIndex_eq_some_iff_of t.overlapTest_iff]

/-- The test of the order check at a position: the entry against the one that stands last before it. -/
def orderTest (t : TableSet) (i : Nat) (e : RemapEntry) : Bool :=
  remapOutOfOrder e (t.remap.toList.take i).getLast?

/-- The order check is the first index of its test. -/
theorem remapOrderAt_eq (t : TableSet) : t.remapOrderAt = firstIndex t.orderTest t.remap.toList := rfl

/-- The order test never holds at the first position, which has none before it. -/
theorem not_orderTest_zero (t : TableSet) : ¬testHoldsAt t.orderTest t.remap.toList 0 := by
  simp [testHoldsAt, orderTest, remapOutOfOrder_none]

/-- The order test at a later position compares it with its left neighbour (R149). -/
theorem orderTest_succ_iff (t : TableSet) (i : Nat) :
    testHoldsAt t.orderTest t.remap.toList (i + 1) ↔ t.disorderedAfter i := by
  constructor
  · rintro ⟨e, he, holds⟩
    obtain ⟨d, hd⟩ : ∃ d, t.remap.toList[i]? = some d :=
      ⟨_, List.getElem?_eq_getElem (Nat.lt_of_succ_lt (List.getElem?_eq_some_iff.mp he).1)⟩
    rw [orderTest, getLast?_take_succ he, hd, remapOutOfOrder_some_iff] at holds
    rw [Vector.getElem?_toList] at he hd
    exact ⟨e, d, he, hd, holds⟩
  · rintro ⟨e, d, he, hd, holds⟩
    rw [← Vector.getElem?_toList] at he hd
    refine ⟨e, he, ?_⟩
    rwa [orderTest, getLast?_take_succ he, hd, remapOutOfOrder_some_iff]

/-- The order check never names the first position. -/
theorem remapOrderAt_ne_zero (t : TableSet) : t.remapOrderAt ≠ some 0 := by
  rw [remapOrderAt_eq, Ne, firstIndex_eq_some_iff]
  exact fun h => t.not_orderTest_zero h.1

/-- The order check finds the first position that is out of order after its left neighbour (R149). -/
theorem remapOrderAt_eq_some_succ_iff (t : TableSet) (i : Nat) :
    t.remapOrderAt = some (i + 1) ↔ t.disorderedAfter i ∧ ∀ k, k < i → ¬t.disorderedAfter k := by
  rw [remapOrderAt_eq, firstIndex_eq_some_iff, orderTest_succ_iff]
  refine and_congr_right fun _ => ⟨fun least k hk => ?_, fun least k hk => ?_⟩
  · exact mt (t.orderTest_succ_iff k).mpr (least (k + 1) (Nat.succ_lt_succ hk))
  · cases k with
    | zero => exact t.not_orderTest_zero
    | succ k => exact mt (t.orderTest_succ_iff k).mp (least k (Nat.lt_of_succ_lt_succ hk))

/-- The test of the reuse check at a position: against each used one of smaller index. -/
def reuseTest (t : TableSet) (i : Nat) (e : RemapEntry) : Bool :=
  e.used && (t.remap.toList.take i).any fun o => o.used && o.spare == e.spare

/-- The reuse check is the first index of its test. -/
theorem spareReusedAt_eq (t : TableSet) : t.spareReusedAt = firstIndex t.reuseTest t.remap.toList := rfl

/-- The reuse test holds where a position has the spare index of a used one of smaller index. -/
theorem reuseTest_iff (t : TableSet) (i : Nat) :
    testHoldsAt t.reuseTest t.remap.toList i ↔ t.reusesSpare i := by
  simp only [testHoldsAt, reuseTest, Bool.and_eq_true, any_take_iff, beq_iff_eq, Vector.getElem?_toList]
  constructor
  · rintro ⟨e, he, used, j, d, hj, hd, usedBefore, same⟩
    exact ⟨e, d, j, hj, he, hd, used, usedBefore, same.symm⟩
  · rintro ⟨e, d, j, hj, he, hd, used, usedBefore, same⟩
    exact ⟨e, he, used, j, d, hj, hd, usedBefore, same.symm⟩

/-- The reuse check finds the first used position with the spare index of a used one of smaller index (R149). -/
theorem spareReusedAt_eq_some_iff (t : TableSet) (i : Nat) :
    t.spareReusedAt = some i ↔ t.reusesSpare i ∧ ∀ k, k < i → ¬t.reusesSpare k := by
  rw [spareReusedAt_eq, firstIndex_eq_some_iff_of t.reuseTest_iff]

end TableSet

/-- Settles O23: each check is a first index, and its test at an index says what the rule says of that position. -/
theorem commitChecksFindTheFirst : Obligations.CommitChecksFindTheFirst :=
  ⟨fun t i => t.overlapAt_eq_some_iff i, fun t i =>
    ⟨t.remapOrderAt_eq_some_succ_iff i, t.remapOrderAt_ne_zero, t.spareReusedAt_eq_some_iff i⟩⟩

end Sys2Proof.Machine
end


section
/-! SUPPORT. The leaving of records: what taking a record out does to each block, and what a Work List in acceptance
order says of a sequence number (R38, R39, R42). -/

namespace Sys2Proof.Machine

/-! One channel's value written as it stands, and written twice. -/

theorem PerChannel.set_get_self {α : Type} (p : PerChannel α) (ch : Channel) : p.set ch (p.get ch) = p := by
  cases ch <;> rfl

theorem PerChannel.set_set_self {α : Type} (p : PerChannel α) (ch : Channel) (v w : α) :
    (p.set ch v).set ch w = p.set ch w := by cases ch <;> rfl

/-! The port of a leaving record. -/

@[simp] theorem Port.dropDelivery_delivery (p : Port) (seq : Nat) :
    (p.dropDelivery seq).delivery = p.delivery.filter (· != seq) := by
  unfold Port.dropDelivery; dsimp only; split <;> rfl

@[simp] theorem Port.dropDelivery_ready (p : Port) (seq : Nat) : (p.dropDelivery seq).ready = p.ready := by
  unfold Port.dropDelivery; dsimp only; split <;> rfl

@[simp] theorem Port.dropDelivery_notices (p : Port) (seq : Nat) : (p.dropDelivery seq).notices = p.notices := by
  unfold Port.dropDelivery; dsimp only; split <;> rfl

@[simp] theorem Port.dropDelivery_overflow (p : Port) (seq : Nat) : (p.dropDelivery seq).overflow = p.overflow := by
  unfold Port.dropDelivery; dsimp only; split <;> rfl

@[simp] theorem Port.dropDelivery_link (p : Port) (seq : Nat) : (p.dropDelivery seq).link = p.link := by
  unfold Port.dropDelivery; dsimp only; split <;> rfl

@[simp] theorem Port.dropDelivery_escalation (p : Port) (seq : Nat) :
    (p.dropDelivery seq).escalation = p.escalation := by
  unfold Port.dropDelivery; dsimp only; split <;> rfl

@[simp] theorem Port.dropDelivery_errorCount (p : Port) (seq : Nat) :
    (p.dropDelivery seq).errorCount = p.errorCount := by
  unfold Port.dropDelivery; dsimp only; split <;> rfl

/-- The port of a leaving record: its answer joins the ready answers, and it leaves the Delivery Queue (R42, R57). -/
def Port.leaveWith (p : Port) (seq : Nat) (ans : Option Answer) : Port :=
  ({ p with ready := p.ready ++ ans.toList } : Port).dropDelivery seq

theorem Port.leaveWith_none (p : Port) (seq : Nat) : p.leaveWith seq none = p.dropDelivery seq := by
  simp only [Port.leaveWith, Option.toList_none, List.append_nil]

@[simp] theorem Port.leaveWith_delivery (p : Port) (seq : Nat) (ans : Option Answer) :
    (p.leaveWith seq ans).delivery = p.delivery.filter (· != seq) := Port.dropDelivery_delivery ..

@[simp] theorem Port.leaveWith_ready (p : Port) (seq : Nat) (ans : Option Answer) :
    (p.leaveWith seq ans).ready = p.ready ++ ans.toList := Port.dropDelivery_ready ..

@[simp] theorem Port.leaveWith_notices (p : Port) (seq : Nat) (ans : Option Answer) :
    (p.leaveWith seq ans).notices = p.notices := Port.dropDelivery_notices ..

@[simp] theorem Port.leaveWith_overflow (p : Port) (seq : Nat) (ans : Option Answer) :
    (p.leaveWith seq ans).overflow = p.overflow := Port.dropDelivery_overflow ..

@[simp] theorem Port.leaveWith_link (p : Port) (seq : Nat) (ans : Option Answer) :
    (p.leaveWith seq ans).link = p.link := Port.dropDelivery_link ..

@[simp] theorem Port.leaveWith_escalation (p : Port) (seq : Nat) (ans : Option Answer) :
    (p.leaveWith seq ans).escalation = p.escalation := Port.dropDelivery_escalation ..

@[simp] theorem Port.leaveWith_errorCount (p : Port) (seq : Nat) (ans : Option Answer) :
    (p.leaveWith seq ans).errorCount = p.errorCount := Port.dropDelivery_errorCount ..

namespace Controller

/-! A Work List in acceptance order. -/

theorem sequenceSound.nodup {c : Controller} (h : c.sequenceSound) : (c.records.map (·.seq)).Nodup :=
  h.1.imp Nat.ne_of_lt

/-- Two records of one sequence number are the same. -/
theorem sequenceSound.eq_of_seq {c : Controller} (h : c.sequenceSound) {q r : Record} (hq : q ∈ c.records)
    (hr : r ∈ c.records) (e : q.seq = r.seq) : q = r :=
  List.inj_on_of_nodup_map h.nodup hq hr e

/-- A record of the list is found by its sequence number. -/
theorem sequenceSound.findRecord {c : Controller} (h : c.sequenceSound) {r : Record} (hr : r ∈ c.records) :
    c.findRecord r.seq = some r := by
  cases hf : c.findRecord r.seq with
  | none => exact absurd (beq_self_eq_true r.seq) (List.find?_eq_none.mp hf r hr)
  | some q => rw [h.eq_of_seq (mem_of_findRecord hf) hr (seq_of_findRecord hf)]

/-- Fewer records, in their order, and the same next number leave the list in acceptance order. -/
theorem sequenceSound.sublist {c d : Controller} (h : c.sequenceSound) (s : d.records.Sublist c.records)
    (n : d.work.nextSeq = c.work.nextSeq) : d.sequenceSound :=
  ⟨h.1.sublist (s.map _), fun r hr => n ▸ h.2 r (s.subset hr)⟩

theorem findRecord_eq_none {c : Controller} {seq : Nat} (h : c.findRecord seq = none) (r : Record)
    (hr : r ∈ c.records) : r.seq ≠ seq := by simpa using List.find?_eq_none.mp h r hr

theorem findRecord_eq_none_iff {c : Controller} {seq : Nat} :
    c.findRecord seq = none ↔ ∀ r ∈ c.records, r.seq ≠ seq := by
  simp [findRecord, List.find?_eq_none]

/-! Taking a record out. -/

/-- A record that has already left is not touched. -/
theorem takeOut_of_none {c : Controller} {seq : Nat} (h : c.findRecord seq = none) (ans : Option Answer) :
    c.takeOut seq ans = c := by simp [takeOut, h]

/-- What the leaving of a record is to each block (R42, steps 1 to 3 and 6). -/
theorem takeOut_of_found {c : Controller} {seq : Nat} {r : Record} (h : c.findRecord seq = some r)
    (ans : Option Answer) :
    c.takeOut seq ans =
      { c with
        ports := c.ports.set r.channel ((c.port r.channel).leaveWith seq ans)
        work := { c.work with
          records := c.records.filter (·.seq != seq)
          commitPending := c.work.commitPending && r.state != .commitWait } } := by
  unfold takeOut
  rw [h]
  cases ans with
  | none =>
    rw [Port.leaveWith_none]
    cases hs : r.state == .commitWait <;> simp [modWork, modPort, setPort, setRecords, bne, hs, records, port]
  | some a =>
    cases hs : r.state == .commitWait <;>
      simp [modWork, modPort, setPort, setRecords, placeAnswer, bne, hs, records, port, PerChannel.set_set_self,
        Port.leaveWith]

@[simp] theorem takeOut_records (c : Controller) (seq : Nat) (ans : Option Answer) :
    (c.takeOut seq ans).records = c.records.filter (·.seq != seq) := by
  cases h : c.findRecord seq with
  | none =>
    rw [takeOut_of_none h]
    exact (List.filter_eq_self.mpr fun r hr => by simpa using findRecord_eq_none h r hr).symm
  | some r => rw [takeOut_of_found h]; rfl

theorem takeOut_records_sublist (c : Controller) (seq : Nat) (ans : Option Answer) :
    (c.takeOut seq ans).records.Sublist c.records := takeOut_records c seq ans ▸ List.filter_sublist

/-- Neither the sequence, the sweep nor a deferred error record moves. -/
theorem takeOut_work (c : Controller) (seq : Nat) (ans : Option Answer) :
    (c.takeOut seq ans).work.nextSeq = c.work.nextSeq ∧ (c.takeOut seq ans).work.sweep = c.work.sweep ∧
      (c.takeOut seq ans).work.deferred = c.work.deferred := by
  cases h : c.findRecord seq with
  | none => rw [takeOut_of_none h]; exact ⟨rfl, rfl, rfl⟩
  | some r => rw [takeOut_of_found h]; exact ⟨rfl, rfl, rfl⟩

@[simp] theorem takeOut_nextSeq (c : Controller) (seq : Nat) (ans : Option Answer) :
    (c.takeOut seq ans).work.nextSeq = c.work.nextSeq := (takeOut_work ..).1

@[simp] theorem takeOut_sweep (c : Controller) (seq : Nat) (ans : Option Answer) :
    (c.takeOut seq ans).work.sweep = c.work.sweep := (takeOut_work ..).2.1

@[simp] theorem takeOut_deferred (c : Controller) (seq : Nat) (ans : Option Answer) :
    (c.takeOut seq ans).work.deferred = c.work.deferred := (takeOut_work ..).2.2

@[simp] theorem takeOut_claims (c : Controller) (seq : Nat) (ans : Option Answer) :
    (c.takeOut seq ans).claims = c.claims := by
  cases h : c.findRecord seq with
  | none => rw [takeOut_of_none h]
  | some r => rw [takeOut_of_found h]

@[simp] theorem takeOut_tables (c : Controller) (seq : Nat) (ans : Option Answer) :
    (c.takeOut seq ans).tables = c.tables := by
  cases h : c.findRecord seq with
  | none => rw [takeOut_of_none h]
  | some r => rw [takeOut_of_found h]

@[simp] theorem takeOut_engine (c : Controller) (seq : Nat) (ans : Option Answer) :
    (c.takeOut seq ans).engine = c.engine := by
  cases h : c.findRecord seq with
  | none => rw [takeOut_of_none h]
  | some r => rw [takeOut_of_found h]

/-- Where the record is found, its port takes the answer and loses the delivery. -/
theorem takeOut_port_self {c : Controller} {seq : Nat} {r : Record} (h : c.findRecord seq = some r)
    (ans : Option Answer) : (c.takeOut seq ans).port r.channel = (c.port r.channel).leaveWith seq ans := by
  rw [takeOut_of_found h]
  exact PerChannel.get_set_self ..

/-- The port of another channel is not touched. -/
theorem takeOut_port_of_ne {c : Controller} {seq : Nat} {r : Record} (h : c.findRecord seq = some r)
    (ans : Option Answer) {ch : Channel} (ne : ch ≠ r.channel) : (c.takeOut seq ans).port ch = c.port ch := by
  rw [takeOut_of_found h]
  exact PerChannel.get_set_of_ne _ _ ne

/-- A port of which no record leaves is not touched. -/
theorem takeOut_port_of_none {c : Controller} {seq : Nat} {ch : Channel}
    (h : ∀ r, c.findRecord seq = some r → r.channel ≠ ch) (ans : Option Answer) :
    (c.takeOut seq ans).port ch = c.port ch := by
  cases hf : c.findRecord seq with
  | none => rw [takeOut_of_none hf]
  | some r => exact takeOut_port_of_ne hf ans (h r hf).symm

/-- The COMMIT-pending mark is cleared by the leaving of a COMMIT-WAIT record. -/
theorem takeOut_commitPending {c : Controller} {seq : Nat} {r : Record} (h : c.findRecord seq = some r)
    (ans : Option Answer) :
    (c.takeOut seq ans).work.commitPending = (c.work.commitPending && r.state != .commitWait) := by
  rw [takeOut_of_found h]

/-- Whatever leaves, a port keeps all but its ready answers, its Delivery Queue and its frame. -/
theorem takeOut_port (c : Controller) (seq : Nat) (ans : Option Answer) (ch : Channel) :
    (c.takeOut seq ans).port ch = c.port ch ∨ (c.takeOut seq ans).port ch = (c.port ch).leaveWith seq ans := by
  cases h : c.findRecord seq with
  | none => exact .inl (by rw [takeOut_of_none h])
  | some r =>
    by_cases e : ch = r.channel
    · subst e; exact .inr (takeOut_port_self h ans)
    · exact .inl (takeOut_port_of_ne h ans e)

@[simp] theorem takeOut_notices (c : Controller) (seq : Nat) (ans : Option Answer) (ch : Channel) :
    ((c.takeOut seq ans).port ch).notices = (c.port ch).notices := by
  rcases takeOut_port c seq ans ch with h | h <;> simp [h]

@[simp] theorem takeOut_link (c : Controller) (seq : Nat) (ans : Option Answer) (ch : Channel) :
    ((c.takeOut seq ans).port ch).link = (c.port ch).link := by
  rcases takeOut_port c seq ans ch with h | h <;> simp [h]

@[simp] theorem takeOut_overflow (c : Controller) (seq : Nat) (ans : Option Answer) (ch : Channel) :
    ((c.takeOut seq ans).port ch).overflow = (c.port ch).overflow := by
  rcases takeOut_port c seq ans ch with h | h <;> simp [h]

@[simp] theorem takeOut_escalation (c : Controller) (seq : Nat) (ans : Option Answer) (ch : Channel) :
    ((c.takeOut seq ans).port ch).escalation = (c.port ch).escalation := by
  rcases takeOut_port c seq ans ch with h | h <;> simp [h]

@[simp] theorem takeOut_errorCount (c : Controller) (seq : Nat) (ans : Option Answer) (ch : Channel) :
    ((c.takeOut seq ans).port ch).errorCount = (c.port ch).errorCount := by
  rcases takeOut_port c seq ans ch with h | h <;> simp [h]

theorem takeOut_sequenceSound {c : Controller} (h : c.sequenceSound) (seq : Nat) (ans : Option Answer) :
    (c.takeOut seq ans).sequenceSound := h.sublist (takeOut_records_sublist ..) (takeOut_nextSeq ..)

end Controller

end Sys2Proof.Machine
end


section
/-! SUPPORT. What a step can do, said once: every command is a run of elementary moves of the block. Each move carries
what the kept conditions need of it, so that a condition is kept by every step once each move keeps it. -/

namespace Sys2Proof.Machine

/-- What a run is read for: nothing beyond the lists, the dispatch of records in a Work List in acceptance order, that
with the holders of the records' states, the claim states, or the mode. A guard of a move that speaks of one of them is
asked for only where the run is read for it. -/
inductive Watch where
  | lists
  | dispatches
  | holders
  | claims
  | mode

/-- The run begins with the Work List in acceptance order. -/
def Watch.ordered : Watch → Bool
  | .dispatches | .holders => true
  | .lists | .claims | .mode => false

/-- An elementary move of the block. -/
inductive Move (w : Watch) : Controller → Controller → Prop
  /-- A port changes, its Delivery Queue apart. -/
  | port {c : Controller} (ch : Channel) (p : Port) (notices : (c.port ch).noticesSound → p.noticesSound)
      (delivery : p.delivery = (c.port ch).delivery) : Move w c (c.setPort ch p)
  /-- A port changes and its Delivery Queue is emptied, when its DELIVERING records have gone (R173, R175). -/
  | emptyDelivery {c : Controller} (ch : Channel) (p : Port) (notices : (c.port ch).noticesSound → p.noticesSound)
      (delivery : p.delivery = []) (gone : w = .holders → ∀ r ∈ c.records, r.state = .delivering → r.channel ≠ ch) :
      Move w c (c.setPort ch p)
  /-- A record that is not ACTIVE is taken out (R42). -/
  | takeOut {c : Controller} (seq : Nat) (ans : Option Answer)
      (idle : w = .holders → ∀ r ∈ c.records, r.seq = seq → r.state ≠ .active) : Move w c (c.takeOut seq ans)
  /-- The ACTIVE record is taken out, and the Engine's work on it ends (R56). -/
  | finish {c : Controller} {k : Work} (ans : Option Answer) (work : c.engine.work = some k) :
      Move w c ((c.setWork none).takeOut k.seq ans)
  /-- The ACTIVE record becomes DELIVERING, and the Engine's work on it ends (R56). -/
  | deliver {c : Controller} {k : Work} {r : Record} (ans : Answer) (work : c.engine.work = some k)
      (found : c.findRecord k.seq = some r) : Move w c ((c.setWork none).deliver r ans)
  /-- The Engine goes on with the same record, or idles on. -/
  | engine {c : Controller} (e : Engine) (same : e.work.map (·.seq) = c.engine.work.map (·.seq)) :
      Move w c (c.setEngine e)
  /-- A record that waits on the drive becomes ACTIVE, and the Engine takes it (R54). -/
  | dispatch {c : Controller} (r : Record) (es : List Record) (sweep : Direction) (extent : Option Nat) (verify : Bool)
      (idle : w.ordered = true → ∀ o ∈ c.records, o.state ≠ .active)
      (there : w.ordered = true → ∃ o ∈ c.records, o.seq = r.seq ∧ (o.state = .waiting ∨ o.state = .lingering) ∧
        o.buffers = r.buffers) :
      Move w c (((c.setRecords (c.dispatchRecords r es extent)).modWork fun l => { l with sweep := sweep }).setWork
        (some (.begin r.seq verify)))
  /-- The records change in nothing that a kept condition reads, or let buffers go. -/
  | records {c : Controller} (f : Record → Record)
      (keeps : ∀ r ∈ c.records, (f r).seq = r.seq ∧ (f r).state = r.state ∧ (f r).channel = r.channel ∧
        (f r).buffers.Sublist r.buffers) : Move w c (c.setRecords (c.records.map f))
  /-- A record enters the Work List in a state that has no holder (R30). -/
  | add {c : Controller} (r : Record) (room : c.records.length < 16) (seq : r.seq = c.work.nextSeq)
      (state : r.state ≠ .active ∧ r.state ≠ .delivering ∧ r.state ≠ .commitWait) (apart : r.buffers.Nodup)
      (fresh : ∀ b ∈ r.buffers, b < 12 ∧ b ∉ c.heldBuffers) : Move w c (c.addRecord r)
  /-- A COMMIT-WAIT record enters the Work List and sets the COMMIT-pending mark (R28, R30). -/
  | addCommit {c : Controller} (r : Record) (room : c.records.length < 16) (seq : r.seq = c.work.nextSeq)
      (state : r.state = .commitWait) (buffers : r.buffers = []) (single : c.anyIn .commitWait = false) :
      Move w c ((c.addRecord r).modWork fun l => { l with commitPending := true })
  /-- The Work List's other fields change. -/
  | work {c : Controller} (f : WorkList → WorkList) (records : (f c.work).records = c.work.records)
      (nextSeq : (f c.work).nextSeq = c.work.nextSeq) (pending : (f c.work).commitPending = c.work.commitPending) :
      Move w c (c.modWork f)
  /-- Claim states change, and none comes or goes. -/
  | claims {c : Controller} (v : Vector (Option Claim) 16)
      (same : w = .claims → ∀ n : Nat, (v[n]?.join).isSome = (c.claimAt n).isSome) : Move w c { c with claims := v }
  /-- Extents and claim states change together: where claims are watched such a change counts as one move. -/
  | jump {c d : Controller} (watched : w = .claims) (sound : d.claimsSound) : Move w c d
  /-- The Table Store changes: fallback entries, commits and writings of the staged set. -/
  | tables {c : Controller} (t : TableStore) (unconfirmed : c.unconfirmedSound → (c.setTables t).unconfirmedSound)
      (mode : w = .mode → c.inFallback = true → t.mode.isFallback = true)
      (extents : w = .claims → t.active.extents = c.tables.active.extents) : Move w c (c.setTables t)
  /-- Media Watch changes. -/
  | media {c : Controller} (m : Media) (suspects : c.suspectsSound → (c.setMedia m).suspectsSound) :
      Move w c (c.setMedia m)
  /-- The Drive Sequencer changes. -/
  | drive {c : Controller} (f : Sequencer → Sequencer) (interlock : c.interlockSound → (c.modDrive f).interlockSound) :
      Move w c (c.modDrive f)
  /-- A command is sent to the drive, one that writes only in NORMAL mode (R155). -/
  | send {c : Controller} (d : DriveCmd) (normal : d.writes = true → c.inFallback = false) : Move w c (c.send d)
  /-- A buffer is filled. -/
  | buffer {c : Controller} (i : Nat) (ws : List Word) : Move w c (c.setBuffer i ws)
  /-- The level-3 operation begins or ends. -/
  | level3 {c : Controller} (v : Option Channel) : Move w c { c with level3 := v }
  /-- The level-3 values of ports and Work List (R176). -/
  | restart {c : Controller} (idle : w = .holders → ∀ r ∈ c.records, r.state ≠ .active) :
      Move w c { (c.modPort .a (·.levelThree)).modPort .b (·.levelThree) with work := .powerOn }
  /-- Every block takes its power-on values (R180). -/
  | powerOn {c : Controller} (cartridge supply writeFault : Bool) : Move w c (.powerOn cartridge supply writeFault)

/-- A run of moves. -/
abbrev Moves (w : Watch) : Controller → Controller → Prop := Relation.ReflTransGen (Move w)

namespace Controller

/-- The records of a block with one record more. -/
@[simp] theorem addRecord_records (c : Controller) (r : Record) : (c.addRecord r).records = c.records ++ [r] := rfl

@[simp] theorem addRecord_nextSeq (c : Controller) (r : Record) :
    (c.addRecord r).work.nextSeq = c.work.nextSeq + 1 := rfl

theorem sequenceSound.addRecord {c : Controller} (h : c.sequenceSound) {r : Record} (e : r.seq = c.work.nextSeq) :
    (c.addRecord r).sequenceSound := by
  refine ⟨?_, fun q hq => ?_⟩
  · simp only [addRecord_records, List.map_append, List.map_cons, List.map_nil, List.pairwise_append]
    refine ⟨h.1, List.pairwise_singleton .., fun a ha b hb => ?_⟩
    obtain ⟨q, hq, rfl⟩ := List.mem_map.mp ha
    rw [List.mem_singleton.mp hb, e]
    exact h.2 q hq
  · rw [addRecord_nextSeq]
    rcases List.mem_append.mp hq with hq | hq
    · exact Nat.lt_succ_of_lt (h.2 q hq)
    · rw [List.mem_singleton.mp hq, e]
      exact Nat.lt_succ_self _

/-- Records changed one by one, each keeping its number, stay in acceptance order. -/
theorem sequenceSound.map {c d : Controller} (h : c.sequenceSound) {f : Record → Record}
    (e : d.records = c.records.map f) (n : d.work.nextSeq = c.work.nextSeq) (k : ∀ r ∈ c.records, (f r).seq = r.seq) :
    d.sequenceSound := by
  refine ⟨?_, fun q hq => ?_⟩
  · rw [e, List.map_map, List.map_congr_left (g := (·.seq)) k]
    exact h.1
  · rw [e] at hq
    obtain ⟨r, hr, rfl⟩ := List.mem_map.mp hq
    rw [k r hr, n]
    exact h.2 r hr

theorem deliver_records (c : Controller) (r : Record) (ans : Answer) :
    (c.deliver r ans).records = c.records.map fun q =>
      if q.seq == r.seq then
        { q with
          state := .delivering
          buffers := q.buffers.take q.done
          firstError := ans.kind.map fun k => { lsa := ans.lsa, kind := k }
          prepared := some ans
          sent := 0 }
      else q := rfl

theorem dispatchRecords_eq_map (c : Controller) (r : Record) (es : List Record) (extent : Option Nat) :
    c.dispatchRecords r es extent = c.records.map fun o =>
      if o.seq == r.seq then { o with state := .active, extent := extent, buffers := c.dispatchBuffers r }
      else if es.any (·.seq == o.seq) then o.passOver else o := rfl

end Controller

/-- Every move keeps the Work List in acceptance order. -/
theorem Move.sequenceSound {w : Watch} {c d : Controller} (m : Move w c d) (o : w.ordered = true) (h : c.sequenceSound) :
    d.sequenceSound := by
  cases m with
  | takeOut seq ans => exact Controller.takeOut_sequenceSound h ..
  | finish ans => exact Controller.takeOut_sequenceSound (c := c.setWork none) h ..
  | deliver ans =>
    refine h.map (d := _) (Controller.deliver_records ..) rfl fun q _ => ?_
    split <;> rfl
  | dispatch r es sweep extent verify =>
    refine h.map (d := _) (Controller.dispatchRecords_eq_map ..) rfl fun q _ => ?_
    split
    · rfl
    · split <;> rfl
  | records f keeps => exact h.map rfl rfl fun q hq => (keeps q hq).1
  | add r _ seq => exact h.addRecord seq
  | addCommit r _ seq => exact h.addRecord seq
  | work f records nextSeq =>
    exact h.sublist (by rw [show (c.modWork f).records = c.records from records]) nextSeq
  | jump watched => exact absurd o (by simp [watched, Watch.ordered])
  | restart => exact ⟨.nil, by simp [Controller.records, WorkList.powerOn]⟩
  | powerOn => exact ⟨.nil, by simp [Controller.records, Controller.powerOn, WorkList.powerOn]⟩
  | port | emptyDelivery | engine | claims | tables | media | drive | send | buffer | level3 => exact h

/-- Where the order is watched, the Work List stands in acceptance order. -/
def Ordered (w : Watch) (c : Controller) : Prop := w.ordered = true → c.sequenceSound

theorem Ordered.sound {w : Watch} {c : Controller} (h : Ordered w c) (e : w = .holders) : c.sequenceSound :=
  h (by rw [e]; rfl)

theorem Moves.ordered {w : Watch} {c d : Controller} (m : Moves w c d) (h : Ordered w c) : Ordered w d := by
  induction m with
  | refl => exact h
  | tail _ m ih => exact fun o => m.sequenceSound o (ih o)

/-- The block goes from `c` to `d` by moves, where it begins in acceptance order. -/
structure Run (w : Watch) (c d : Controller) : Prop where
  moves : Ordered w c → Moves w c d

namespace Run

variable {w : Watch} {c d e : Controller}

theorem rfl : Run w c c := ⟨fun _ => .refl⟩

theorem trans (h : Run w c d) (k : Run w d e) : Run w c e :=
  ⟨fun o => (h.moves o).trans (k.moves ((h.moves o).ordered o))⟩

theorem of_move (m : Move w c d) : Run w c d := ⟨fun _ => .single m⟩

/-- A run may be made from what the order of the Work List says. -/
theorem of_ordered (h : Ordered w c → Run w c d) : Run w c d := ⟨fun o => (h o).moves o⟩

/-- A case split of the change. -/
theorem ite {p : Prop} [Decidable p] (h : p → Run w c d) (k : ¬p → Run w c e) : Run w c (if p then d else e) := by
  split
  · exact h ‹_›
  · exact k ‹_›

theorem foldl {α : Type} {f : Controller → α → Controller} (h : ∀ (c : Controller) (a : α), Run w c (f c a)) :
    ∀ (l : List α) (c : Controller), Run w c (l.foldl f c)
  | [], _ => rfl
  | a :: l, c => (h c a).trans (foldl h l (f c a))

end Run

/-- The block goes from `c` to `d` by moves in which records at most leave: what answers, notices, leavings, claims and
fallback entries do. -/
structure Shared (w : Watch) (c d : Controller) : Prop where
  run : Run w c d
  fewer : d.records.Sublist c.records

namespace Shared

variable {w : Watch} {c d e : Controller}

theorem rfl : Shared w c c := ⟨.rfl, .refl _⟩

theorem trans (h : Shared w c d) (k : Shared w d e) : Shared w c e := ⟨h.run.trans k.run, k.fewer.trans h.fewer⟩

/-- A move that leaves the records alone. -/
theorem of_move (m : Move w c d) (e : d.records = c.records) : Shared w c d := ⟨.of_move m, by rw [e]⟩

theorem ite {p : Prop} [Decidable p] (h : p → Shared w c d) (k : ¬p → Shared w c e) :
    Shared w c (if p then d else e) := by
  split
  · exact h ‹_›
  · exact k ‹_›

theorem foldl {α : Type} {f : Controller → α → Controller} (h : ∀ (c : Controller) (a : α), Shared w c (f c a)) :
    ∀ (l : List α) (c : Controller), Shared w c (l.foldl f c)
  | [], _ => rfl
  | a :: l, c => (h c a).trans (foldl h l (f c a))

/-- A record that the list still has has not become another. -/
theorem eq_of_seq (h : Shared w c d) (s : c.sequenceSound) {q r : Record} (hq : q ∈ d.records) (hr : r ∈ c.records)
    (e : q.seq = r.seq) : q = r := s.eq_of_seq (h.fewer.subset hq) hr e

/-- One after another, records of the list are dealt with: each finds at its turn what it was, or nothing. -/
theorem foldl_each {f : Controller → Record → Controller} (o : Ordered w c) :
    ∀ (l : List Record) (d : Controller), (∀ r ∈ l, r ∈ c.records) →
      (∀ r ∈ l, ∀ d : Controller, (w = .holders → ∀ q ∈ d.records, q.seq = r.seq → q = r) → Shared w d (f d r)) →
      Shared w c d → Shared w d (l.foldl f d)
  | [], _, _, _, _ => rfl
  | r :: l, d, hl, h, hd => by
    have step : Shared w d (f d r) :=
      h r (List.mem_cons_self ..) d fun e q hq => hd.eq_of_seq (o.sound e) hq (hl r (List.mem_cons_self ..))
    exact step.trans (foldl_each o l _ (fun q hq => hl q (List.mem_cons_of_mem _ hq))
      (fun q hq => h q (List.mem_cons_of_mem _ hq)) (hd.trans step))

/-- The same, from the block in which the records are chosen. -/
theorem foldl_filter {f : Controller → Record → Controller} {p : Record → Bool} (c : Controller)
    (h : ∀ r, p r = true → ∀ d : Controller, (w = .holders → ∀ q ∈ d.records, q.seq = r.seq → q = r) →
      Shared w d (f d r))
    (fewer : ∀ (d : Controller) (r : Record), (f d r).records.Sublist d.records) :
    Shared w c ((c.records.filter p).foldl f c) where
  run := .of_ordered fun o => (foldl_each o _ c (fun _ hr => List.mem_of_mem_filter hr)
    (fun r hr => h r (List.mem_filter.mp hr).2) rfl).run
  fewer := by
    generalize c.records.filter p = l
    induction l generalizing c with
    | nil => exact .refl _
    | cons r l ih => exact (ih (f c r)).trans (fewer c r)

end Shared

end Sys2Proof.Machine
end


section
/-! SUPPORT. The operations that several blocks share, as runs of moves (Machine/Ops.lean), with the equations of the
claim operations and of a fallback entry. -/

namespace Sys2Proof.Machine

/-! Ports. -/

/-- What a port makes of a notice: nothing, its overflow flag, or one more notice within the capacity (R171). -/
theorem Port.takeNotice_cases (p : Port) (enabled : Bool) (n : Notice) :
    p.takeNotice enabled n = p ∨ p.takeNotice enabled n = { p with overflow := true } ∨
      p.notices.length < 8 ∧ n ∉ p.notices ∧ p.takeNotice enabled n = { p with notices := p.notices ++ [n] } := by
  unfold Port.takeNotice
  split
  · exact .inl rfl
  · split
    · exact .inl rfl
    · split
      · exact .inr (.inl rfl)
      · rename_i hn hl
        exact .inr (.inr ⟨Nat.lt_of_not_le hl, by simpa using hn, rfl⟩)

theorem Port.takeNotice_noticesSound {p : Port} (h : p.noticesSound) (enabled : Bool) (n : Notice) :
    (p.takeNotice enabled n).noticesSound := by
  rcases p.takeNotice_cases enabled n with e | e | ⟨hl, hn, e⟩ <;> rw [e]
  · exact h
  · exact h
  · refine ⟨by simp only [List.length_append, List.length_singleton]; omega, ?_⟩
    exact h.2.append (List.nodup_singleton n) (List.disjoint_singleton.mpr hn)

/-- A notice moves nothing of a port but its Notice Queue and overflow flag. -/
theorem Port.takeNotice_rest (p : Port) (enabled : Bool) (n : Notice) :
    p.takeNotice enabled n =
      { p with notices := (p.takeNotice enabled n).notices, overflow := (p.takeNotice enabled n).overflow } := by
  rcases p.takeNotice_cases enabled n with e | e | ⟨-, -, e⟩ <;> rw [e]

@[simp] theorem Port.takeNotice_delivery (p : Port) (enabled : Bool) (n : Notice) :
    (p.takeNotice enabled n).delivery = p.delivery := by rw [Port.takeNotice_rest]

@[simp] theorem Port.takeNotice_ready (p : Port) (enabled : Bool) (n : Notice) :
    (p.takeNotice enabled n).ready = p.ready := by rw [Port.takeNotice_rest]

namespace Controller

variable {w : Watch}

theorem modPort_shared (c : Controller) (ch : Channel) (f : Port → Port)
    (notices : ∀ p : Port, p.noticesSound → (f p).noticesSound) (delivery : ∀ p : Port, (f p).delivery = p.delivery) :
    Shared w c (c.modPort ch f) := .of_move (.port ch _ (notices _) (delivery _)) rfl

theorem placeAnswer_shared (c : Controller) (ch : Channel) (a : Answer) : Shared w c (c.placeAnswer ch a) :=
  modPort_shared c ch _ (fun _ h => h) fun _ => rfl

theorem answerOrder_shared (c : Controller) (o : Order) (code : AnswerCode) : Shared w c (c.answerOrder o code) :=
  placeAnswer_shared ..

theorem frameTaken_shared (c : Controller) (ch : Channel) : Shared w c (c.frameTaken ch) :=
  modPort_shared c ch _ (fun _ h => h) fun _ => rfl

theorem offerUntested_shared (c : Controller) (ch : Channel) (n : Notice) : Shared w c (c.offerUntested ch n) :=
  modPort_shared c ch _ (fun _ h => Port.takeNotice_noticesSound h ..) fun _ => Port.takeNotice_delivery ..

theorem setDeferred_shared (c : Controller) (ch : Channel) (d : Option DeferredRecord) :
    Shared w c (c.setDeferred ch d) :=
  .of_move (.work (fun l => { l with deferred := l.deferred.set ch d }) rfl rfl rfl) rfl

/-! Claims. -/

/-- A claim state changes into another. -/
theorem setClaim_shared (c : Controller) (e : Nat) (v : Option Claim)
    (h : w = .claims → v.isSome = (c.claimAt e).isSome) : Shared w c (c.setClaim e v) := by
  refine .of_move (.claims _ fun hw n => ?_) rfl
  have hv := h hw
  change ((c.setClaim e v).claimAt n).isSome = (c.claimAt n).isSome
  by_cases he : e = n
  · subst he
    by_cases h16 : e < 16
    · rw [setClaim_claimAt_self c e v h16, hv]
    · simp [claimAt, h16]
  · rw [setClaim_claimAt_of_ne c v he]

/-! The leaving of a record. -/

theorem takeOut_shared (c : Controller) (seq : Nat) (ans : Option Answer)
    (idle : w = .holders → ∀ r ∈ c.records, r.seq = seq → r.state ≠ .active) : Shared w c (c.takeOut seq ans) :=
  ⟨.of_move (.takeOut seq ans idle), takeOut_records_sublist ..⟩

/-- A record of the list that is not ACTIVE is taken out. -/
theorem takeOut_shared_of_mem {c : Controller} {r : Record} (hr : r ∈ c.records) (idle : r.state ≠ .active)
    (ans : Option Answer) : Shared w c (c.takeOut r.seq ans) where
  run := .of_ordered fun o => (takeOut_shared c r.seq ans fun hw _ hq e => (o.sound hw).eq_of_seq hq hr e ▸ idle).run
  fewer := takeOut_records_sublist ..

/-- The waiter found is a CLAIM-WAIT record of the channel on the extent. -/
theorem claimWaiter_some {c : Controller} {ch : Channel} {e : Nat} {r : Record} (h : c.claimWaiter ch e = some r) :
    r ∈ c.records ∧ r.state = .claimWait ∧ r.channel = ch ∧ r.extent = some e := by
  have hp := List.find?_some h
  simp only [Bool.and_eq_true, beq_iff_eq] at hp
  exact ⟨List.mem_of_find?_eq_some h, hp.1.1, hp.1.2, hp.2⟩

theorem answerWaiter_of_none {c : Controller} {ch : Channel} {e : Nat} (h : c.claimWaiter ch e = none)
    (code : AnswerCode) : c.answerWaiter ch e code = c := by simp [answerWaiter, h]

theorem answerWaiter_of_some {c : Controller} {ch : Channel} {e : Nat} {r : Record} (h : c.claimWaiter ch e = some r)
    (code : AnswerCode) : c.answerWaiter ch e code = c.takeOut r.seq (some (r.answer code)) := by
  simp [answerWaiter, h]

theorem answerWaiter_shared (c : Controller) (ch : Channel) (e : Nat) (code : AnswerCode) :
    Shared w c (c.answerWaiter ch e code) := by
  cases h : c.claimWaiter ch e with
  | none => rw [answerWaiter_of_none h]; exact .rfl
  | some r =>
    obtain ⟨hr, hs, -, -⟩ := claimWaiter_some h
    rw [answerWaiter_of_some h]
    exact takeOut_shared_of_mem hr (by simp [hs]) _

@[simp] theorem answerWaiter_claims (c : Controller) (ch : Channel) (e : Nat) (code : AnswerCode) :
    (c.answerWaiter ch e code).claims = c.claims := by
  unfold answerWaiter; split <;> simp

@[simp] theorem answerWaiter_tables (c : Controller) (ch : Channel) (e : Nat) (code : AnswerCode) :
    (c.answerWaiter ch e code).tables = c.tables := by
  unfold answerWaiter; split <;> simp

@[simp] theorem answerWaiter_engine (c : Controller) (ch : Channel) (e : Nat) (code : AnswerCode) :
    (c.answerWaiter ch e code).engine = c.engine := by
  unfold answerWaiter; split <;> simp

theorem endDrain_shared (c : Controller) (e : Nat) : Shared w c (c.endDrain e) := by
  unfold endDrain
  split
  · rename_i h toWaiter hc
    refine .ite (fun _ => .ite (fun _ => ?_) fun _ => ?_) fun _ => .rfl
    · exact (setClaim_shared c e _ fun _ => by rw [hc]; rfl).trans (answerWaiter_shared ..)
    · exact setClaim_shared c e _ fun _ => by rw [hc]; rfl
  · exact .rfl

theorem drainFalls_shared (c : Controller) (r : Record) : Shared w c (c.drainFalls r) := by
  unfold drainFalls
  split
  · exact .rfl
  · split
    · exact .ite (fun _ => endDrain_shared ..) fun _ => .rfl
    · exact .rfl

theorem syncComplete_state {c : Controller} {ch : Channel} {r : Record} (h : c.syncComplete ch r = true) :
    r.channel = ch ∧ r.state = .syncWait := by
  simp only [syncComplete, Bool.and_eq_true, beq_iff_eq] at h
  exact h.1

theorem completeSyncs_shared (c : Controller) (ch : Channel) : Shared w c (c.completeSyncs ch) :=
  Shared.foldl_filter c
    (fun r h d same => takeOut_shared d r.seq _ fun o q hq e => by rw [same o q hq e, (syncComplete_state h).2]; simp)
    fun d r => takeOut_records_sublist d r.seq _

/-- What follows the taking out of a record, once it was found. -/
theorem leave_of_found {c : Controller} {seq : Nat} {r : Record} (h : c.findRecord seq = some r)
    (ans : Option Answer) : c.leave seq ans =
      if r.endsSyncs then ((c.takeOut seq ans).drainFalls r).completeSyncs r.channel
      else (c.takeOut seq ans).drainFalls r := by simp [leave, h]

theorem leave_of_none {c : Controller} {seq : Nat} (h : c.findRecord seq = none) (ans : Option Answer) :
    c.leave seq ans = c := by simp [leave, h]

/-- What follows the taking out of a record is shared. -/
theorem leave_after_shared (c : Controller) (r : Record) :
    Shared w c (if r.endsSyncs then (c.drainFalls r).completeSyncs r.channel else c.drainFalls r) :=
  .ite (fun _ => (drainFalls_shared ..).trans (completeSyncs_shared ..)) fun _ => drainFalls_shared ..

theorem leave_shared (c : Controller) (seq : Nat) (ans : Option Answer)
    (idle : w = .holders → ∀ r ∈ c.records, r.seq = seq → r.state ≠ .active) : Shared w c (c.leave seq ans) := by
  cases h : c.findRecord seq with
  | none => rw [leave_of_none h]; exact .rfl
  | some r =>
    rw [leave_of_found h]
    exact (takeOut_shared c seq ans idle).trans (leave_after_shared ..)

theorem leave_records_sublist (c : Controller) (seq : Nat) (ans : Option Answer) :
    (c.leave seq ans).records.Sublist c.records :=
  (leave_shared (w := .lists) c seq ans (by simp)).fewer

/-- A record of the list that is not ACTIVE leaves. -/
theorem leave_shared_of_mem {c : Controller} {r : Record} (hr : r ∈ c.records) (idle : r.state ≠ .active)
    (ans : Option Answer) : Shared w c (c.leave r.seq ans) where
  run := .of_ordered fun o => (leave_shared c r.seq ans fun hw _ hq e => (o.sound hw).eq_of_seq hq hr e ▸ idle).run
  fewer := leave_records_sublist ..

theorem turnAwayWrites_shared (c : Controller) (ch : Channel) (e : Nat) : Shared w c (c.turnAwayWrites ch e) :=
  Shared.foldl_filter c (fun r h d same => leave_shared d r.seq _ fun o q hq e => by
      simp only [Bool.and_eq_true, beq_iff_eq] at h
      simp [same o q hq e, h.1.1.1])
    fun d r => leave_records_sublist d r.seq _

theorem enterHandover_shared (c : Controller) (e : Nat) (h : Channel) (toWaiter : Bool)
    {mid : Controller → Controller} (hm : ∀ c : Controller, Shared w c (mid c)) (some : (c.claimAt e).isSome = true) :
    Shared w c (c.enterHandover e h toWaiter mid) := by
  have entered := (setClaim_shared (w := w) c e (.some (.handingOver h toWaiter)) fun _ => some.symm).trans (hm _)
  unfold enterHandover
  dsimp only
  split
  · exact entered.trans ((turnAwayWrites_shared ..).trans (endDrain_shared ..))
  · exact entered

/-! Claims that are dropped. -/

/-- The notice to the holder of a dropped claim. -/
def tellHolder (c : Controller) (offer : Controller → Channel → Notice → Controller) (e : Nat) :
    Option Channel → Controller
  | none => c
  | some h => offer c h (.claimLost e)

/-- The answer to the waiter of a dropped claim. -/
def revokeWaiter (c : Controller) (e : Nat) : Option Channel → Controller
  | none => c
  | some ch => c.answerWaiter ch e .revoked

theorem dropClaim_of_none {c : Controller} {e : Nat} (h : c.claimAt e = none)
    (offer : Controller → Channel → Notice → Controller) : c.dropClaim offer e = c := by simp [dropClaim, h]

/-- A claim is dropped in three parts: its state, the notice to the holder, the answer to the waiter (R81). -/
theorem dropClaim_of_some {c : Controller} {e : Nat} {cl : Claim} (h : c.claimAt e = some cl)
    (offer : Controller → Channel → Notice → Controller) : c.dropClaim offer e =
      ((c.setClaim e none).tellHolder offer e cl.holder).revokeWaiter e cl.waiter := by
  unfold dropClaim
  rw [h]
  cases hh : cl.holder <;> cases hw : cl.waiter <;> simp [tellHolder, revokeWaiter, hh, hw]

theorem dropClaim_shared (hw : w ≠ .claims) (c : Controller) {offer : Controller → Channel → Notice → Controller}
    (ho : ∀ (c : Controller) (ch : Channel) (n : Notice), Shared w c (offer c ch n)) (e : Nat) :
    Shared w c (c.dropClaim offer e) := by
  cases h : c.claimAt e with
  | none => rw [dropClaim_of_none h]; exact .rfl
  | some cl =>
    rw [dropClaim_of_some h]
    refine (setClaim_shared c e none fun k => absurd k hw).trans (Shared.trans (d := (c.setClaim e none).tellHolder offer e cl.holder) ?_ ?_)
    · cases cl.holder <;> [exact .rfl; exact ho ..]
    · cases cl.waiter <;> [exact .rfl; exact answerWaiter_shared ..]

theorem dropClaims_shared (hw : w ≠ .claims) (c : Controller) {offer : Controller → Channel → Notice → Controller}
    (ho : ∀ (c : Controller) (ch : Channel) (n : Notice), Shared w c (offer c ch n)) :
    Shared w c (c.dropClaims offer) := Shared.foldl (fun c e => dropClaim_shared hw c ho e) _ c

/-- After a claim is dropped its extent has no claim state, and the others have theirs. -/
theorem dropClaim_claimAt (c : Controller) {offer : Controller → Channel → Notice → Controller}
    (ho : ∀ (c : Controller) (ch : Channel) (n : Notice), (offer c ch n).claims = c.claims) (e n : Nat) :
    (c.dropClaim offer e).claimAt n = if n = e then none else c.claimAt n := by
  cases h : c.claimAt e with
  | none =>
    rw [dropClaim_of_none h]
    split <;> simp_all
  | some cl =>
    have same : (c.dropClaim offer e).claims = (c.setClaim e none).claims := by
      rw [dropClaim_of_some h]
      cases cl.holder <;> cases cl.waiter <;> simp [tellHolder, revokeWaiter, ho]
    rw [claimAt, same]
    change (c.setClaim e none).claimAt n = _
    split
    · rename_i hn
      subst hn
      have h16 : n < 16 := by
        by_contra k
        simp [claimAt, k] at h
      exact setClaim_claimAt_self _ _ _ h16
    · rename_i hn
      exact setClaim_claimAt_of_ne _ _ (Ne.symm hn)

theorem foldl_dropClaim_claimAt {offer : Controller → Channel → Notice → Controller}
    (ho : ∀ (c : Controller) (ch : Channel) (n : Notice), (offer c ch n).claims = c.claims) (n : Nat) :
    ∀ (l : List Nat) (c : Controller),
      (l.foldl (fun c e => c.dropClaim offer e) c).claimAt n = if n ∈ l then none else c.claimAt n
  | [], c => by simp
  | e :: l, c => by
    rw [List.foldl_cons, foldl_dropClaim_claimAt ho n l, dropClaim_claimAt c ho]
    by_cases h : n = e <;> simp [h]

theorem claimAt_of_ge (c : Controller) {n : Nat} (h : 16 ≤ n) : c.claimAt n = none := by
  simp [claimAt, Nat.not_lt.mpr h]

/-- Once every claim is dropped no claim state is left. -/
theorem dropClaims_claimAt (c : Controller) {offer : Controller → Channel → Notice → Controller}
    (ho : ∀ (c : Controller) (ch : Channel) (n : Notice), (offer c ch n).claims = c.claims) (n : Nat) :
    (c.dropClaims offer).claimAt n = none := by
  rw [dropClaims, foldl_dropClaim_claimAt ho]
  split
  · rfl
  · rename_i h
    exact claimAt_of_ge c (by simpa using h)

/-- A dropped claim leaves what `offer` leaves. -/
theorem dropClaim_tables (c : Controller) {offer : Controller → Channel → Notice → Controller}
    (ho : ∀ (c : Controller) (ch : Channel) (n : Notice), (offer c ch n).tables = c.tables) (e : Nat) :
    (c.dropClaim offer e).tables = c.tables := by
  cases h : c.claimAt e with
  | none => rw [dropClaim_of_none h]
  | some cl =>
    rw [dropClaim_of_some h]
    cases cl.holder <;> cases cl.waiter <;> simp [tellHolder, revokeWaiter, ho]

theorem dropClaim_engine (c : Controller) {offer : Controller → Channel → Notice → Controller}
    (ho : ∀ (c : Controller) (ch : Channel) (n : Notice), (offer c ch n).engine = c.engine) (e : Nat) :
    (c.dropClaim offer e).engine = c.engine := by
  cases h : c.claimAt e with
  | none => rw [dropClaim_of_none h]
  | some cl =>
    rw [dropClaim_of_some h]
    cases cl.holder <;> cases cl.waiter <;> simp [tellHolder, revokeWaiter, ho]

/-- What no step of a fold changes, the fold does not change. -/
theorem foldl_field {α β : Type} (get : Controller → β) {f : Controller → α → Controller}
    (h : ∀ (c : Controller) (a : α), get (f c a) = get c) : ∀ (l : List α) (c : Controller), get (l.foldl f c) = get c
  | [], _ => rfl
  | a :: l, c => (foldl_field get h l (f c a)).trans (h c a)

theorem dropClaims_tables (c : Controller) {offer : Controller → Channel → Notice → Controller}
    (ho : ∀ (c : Controller) (ch : Channel) (n : Notice), (offer c ch n).tables = c.tables) :
    (c.dropClaims offer).tables = c.tables := foldl_field (·.tables) (fun c e => dropClaim_tables c ho e) _ c

theorem dropClaims_engine (c : Controller) {offer : Controller → Channel → Notice → Controller}
    (ho : ∀ (c : Controller) (ch : Channel) (n : Notice), (offer c ch n).engine = c.engine) :
    (c.dropClaims offer).engine = c.engine := foldl_field (·.engine) (fun c e => dropClaim_engine c ho e) _ c

/-! Fallback entry. -/

/-- The engine with a pending stop for its record. -/
theorem givePendingStop_eq (c : Controller) (st : Stop) : c.givePendingStop st =
    c.setEngine { c.engine with work := c.engine.work.map fun k => { k with stop := some (k.stop.getD st) } } := by
  cases h : c.engine.work with
  | none =>
    have : c.engine = { c.engine with work := none } := by rw [← h]
    simp only [givePendingStop, h, Option.map_none, setEngine, ← this]
  | some k => simp [givePendingStop, h, setWork, setEngine]

theorem givePendingStop_shared (c : Controller) (st : Stop) : Shared w c (c.givePendingStop st) := by
  rw [givePendingStop_eq]
  exact .of_move (.engine _ (by cases c.engine.work <;> rfl)) rfl

/-- The claims of a block in fallback: none (R82, R84). -/
def dropAllClaims (c : Controller) (reason : FallbackReason) : Controller :=
  if reason == .reset then c.clearClaims else c.dropClaims Controller.offerUntested

theorem fallbackEntry_eq (c : Controller) (reason : FallbackReason) : c.fallbackEntry reason =
    ((((c.setTables (c.tables.enterFallback reason)).dropAllClaims reason).givePendingStop .fallback).offerUntested .a
      (.fallback reason)).offerUntested .b (.fallback reason) := rfl

theorem dropAllClaims_tables (c : Controller) (reason : FallbackReason) :
    (c.dropAllClaims reason).tables = c.tables := by
  unfold dropAllClaims; split
  · rfl
  · exact dropClaims_tables c fun _ _ _ => rfl

theorem dropAllClaims_engine (c : Controller) (reason : FallbackReason) :
    (c.dropAllClaims reason).engine = c.engine := by
  unfold dropAllClaims; split
  · rfl
  · exact dropClaims_engine c fun _ _ _ => rfl

theorem dropAllClaims_claimAt (c : Controller) (reason : FallbackReason) (n : Nat) :
    (c.dropAllClaims reason).claimAt n = none := by
  unfold dropAllClaims; split
  · by_cases h : n < 16 <;> simp [clearClaims, claimAt, h]
  · exact dropClaims_claimAt c (offer := offerUntested) (fun c ch n => modPort_claims ..) n

/-- The tables take their fallback forms (R153). -/
@[simp] theorem fallbackEntry_tables (c : Controller) (reason : FallbackReason) :
    (c.fallbackEntry reason).tables = c.tables.enterFallback reason := by
  rw [fallbackEntry_eq, givePendingStop_eq]
  simp only [offerUntested, modPort_tables, setEngine_tables, dropAllClaims_tables, setTables_tables]

/-- No claim is left (R82, R84). -/
@[simp] theorem fallbackEntry_claimAt (c : Controller) (reason : FallbackReason) (n : Nat) :
    (c.fallbackEntry reason).claimAt n = none := by
  rw [fallbackEntry_eq, givePendingStop_eq]
  have h := dropAllClaims_claimAt (c.setTables (c.tables.enterFallback reason)) reason n
  rw [claimAt] at h ⊢
  simpa only [offerUntested, modPort_claims, setEngine_claims] using h

/-- The ACTIVE record receives a pending stop (R102, R153). -/
@[simp] theorem fallbackEntry_engine (c : Controller) (reason : FallbackReason) :
    (c.fallbackEntry reason).engine =
      { c.engine with work := c.engine.work.map fun k => { k with stop := some (k.stop.getD .fallback) } } := by
  rw [fallbackEntry_eq, givePendingStop_eq]
  have h := dropAllClaims_engine (c.setTables (c.tables.enterFallback reason)) reason
  simp only [offerUntested, modPort_engine, setEngine_engine, h, setTables_engine]

/-- No entry of the fallback Extent Table is EXCLUSIVE (R154). -/
theorem fallbackExtents_not_claimable {n : Nat} {e : ExtentEntry} (h : fallbackExtents[n]? = some e) :
    e.claimable = false := by
  have all : ∀ i : Fin 16, (fallbackExtents[i]).claimable = false := by decide
  obtain ⟨hn, rfl⟩ := Vector.getElem?_eq_some_iff.mp h
  exact all ⟨n, hn⟩

theorem fallbackEntry_claimsSound (c : Controller) (reason : FallbackReason) : (c.fallbackEntry reason).claimsSound := by
  intro n e he
  rw [fallbackEntry_tables] at he
  rw [fallbackEntry_claimAt, fallbackExtents_not_claimable he]
  rfl

theorem emptyRemap_unused {e : RemapEntry} (h : e ∈ emptyRemap.toList) : e.used = false := by
  have : e = unusedRemap := by simpa [emptyRemap] using h
  subst this
  decide

/-- A fallback entry that does not keep the Remap Table empties it, and one that keeps it keeps the mark (R13, R153). -/
theorem enterFallback_unconfirmedSound {c : Controller} (h : c.unconfirmedSound) (reason : FallbackReason) :
    (c.setTables (c.tables.enterFallback reason)).unconfirmedSound := by
  intro u
  refine ⟨rfl, ?_⟩
  simp only [setTables_tables, TableStore.enterFallback, TableSet.toFallback] at u ⊢
  split
  · rename_i keep
    simp only [keep, Bool.not_true, Bool.false_or] at u
    exact (h u).2
  · exact fun e he => emptyRemap_unused he

theorem fallbackEntry_shared (c : Controller) (reason : FallbackReason) : Shared w c (c.fallbackEntry reason) := by
  have parts : ∀ {w : Watch}, w ≠ .claims → Shared w c (c.fallbackEntry reason) := fun {w} hw => by
    rw [fallbackEntry_eq]
    refine (Shared.of_move (.tables _ (fun h => enterFallback_unconfirmedSound h reason) (fun _ _ => rfl)
      fun k => absurd k hw) rfl).trans (Shared.trans ?_ ((givePendingStop_shared ..).trans
        ((offerUntested_shared ..).trans (offerUntested_shared ..))))
    refine .ite (fun _ => ?_) fun _ => dropClaims_shared hw _ fun _ _ _ => offerUntested_shared ..
    exact .of_move (.claims _ fun k => absurd k hw) rfl
  by_cases hw : w = .claims
  · exact ⟨.of_move (.jump hw (fallbackEntry_claimsSound c reason)), (parts (w := .lists) (by simp)).fewer⟩
  · exact parts hw

theorem tableFault_shared (c : Controller) : Shared w c c.tableFault := fallbackEntry_shared ..

theorem testWord_shared (c : Controller) (t : TWord) : Shared w c (c.testWord t) :=
  .ite (fun _ => .rfl) fun _ => tableFault_shared c

theorem offer_shared (c : Controller) (ch : Channel) (n : Notice) : Shared w c (c.offer ch n) :=
  (testWord_shared ..).trans (offerUntested_shared ..)

theorem offerBoth_shared (c : Controller) (n : Notice) : Shared w c (c.offerBoth n) :=
  (offer_shared ..).trans (offer_shared ..)

/-! Failures of records. -/

theorem failEarly_shared (c : Controller) (r : Record) (kind : ErrorKind) (lsa : Nat)
    (idle : w = .holders → ∀ q ∈ c.records, q.seq = r.seq → q.state ≠ .active) :
    Shared w c (c.failEarly r kind lsa) := by
  have told := (setDeferred_shared (w := w) c r.channel
    (some (addFailure (c.work.deferred.get r.channel) r.tag lsa kind))).trans (offer_shared _ r.channel (.deferredError r.tag))
  exact told.trans (leave_shared _ _ _ fun o _ hq => idle o _ (told.fewer.subset hq))

theorem failEarly_records_sublist (c : Controller) (r : Record) (kind : ErrorKind) (lsa : Nat) :
    (c.failEarly r kind lsa).records.Sublist c.records := (failEarly_shared (w := .lists) c r kind lsa (by simp)).fewer

theorem failEarly_shared_of_mem {c : Controller} {r : Record} (hr : r ∈ c.records) (idle : r.state ≠ .active)
    (kind : ErrorKind) (lsa : Nat) : Shared w c (c.failEarly r kind lsa) where
  run := .of_ordered fun o => (failEarly_shared c r kind lsa fun hw _ hq e => (o.sound hw).eq_of_seq hq hr e ▸ idle).run
  fewer := failEarly_records_sublist ..

theorem endWaiting_of_waiting {r : Record} (h : r.state = .waiting) (c : Controller) (ans : Record → Answer)
    (kind : Option ErrorKind) : c.endWaiting ans kind r = c.leave r.seq (some (ans r)) := by
  unfold endWaiting; simp [h]

theorem endWaiting_of_lingering {r : Record} (h : r.state = .lingering) (c : Controller) (ans : Record → Answer)
    (k : ErrorKind) : c.endWaiting ans (some k) r = c.failEarly r k r.job.start := by
  unfold endWaiting; simp [h]

theorem endWaiting_of_ne {r : Record} (w : r.state ≠ .waiting) (l : r.state ≠ .lingering) (c : Controller)
    (ans : Record → Answer) (kind : Option ErrorKind) : c.endWaiting ans kind r = c := by
  unfold endWaiting; split <;> simp_all

theorem endWaiting_of_none {r : Record} (w : r.state ≠ .waiting) (c : Controller) (ans : Record → Answer) :
    c.endWaiting ans none r = c := by
  unfold endWaiting; split <;> simp_all

theorem endWaiting_shared (c : Controller) (ans : Record → Answer) (kind : Option ErrorKind) (r : Record)
    (same : w = .holders → ∀ q ∈ c.records, q.seq = r.seq → q = r) : Shared w c (c.endWaiting ans kind r) := by
  unfold endWaiting
  split
  · rename_i h
    exact leave_shared _ _ _ fun o q hq e => by rw [same o q hq e, h]; simp
  · rename_i h
    exact failEarly_shared _ _ _ _ fun o q hq e => by rw [same o q hq e, h]; simp
  · exact .rfl

theorem endWaiting_records_sublist (c : Controller) (ans : Record → Answer) (kind : Option ErrorKind) (r : Record) :
    (c.endWaiting ans kind r).records.Sublist c.records :=
  (endWaiting_shared (w := .lists) c ans kind r (by simp)).fewer

theorem endAllWaiting_shared (c : Controller) (ans : Record → Answer) (kind : Option ErrorKind) :
    Shared w c (c.endAllWaiting ans kind) :=
  Shared.foldl_filter c (fun r _ d same => endWaiting_shared d ans kind r same)
    fun d r => endWaiting_records_sublist d ans kind r

end Controller

end Sys2Proof.Machine
end


section
/-! SUPPORT. Media Watch and the Transfer Engine as runs of moves (Machine/MediaWatch.lean, Machine/Engine.lean). The end
of an ACTIVE period sets the Engine idle before the record leaves; the two are brought together into one move. -/

namespace Sys2Proof.Machine

namespace Controller

variable {w : Watch}

/-! Media Watch. -/

/-- A Suspect List that stays as it is stays sound. -/
theorem setMedia_shared (c : Controller) (m : Media) (same : m.suspects = c.media.suspects) :
    Shared w c (c.setMedia m) := by
  refine .of_move (.media m fun h => ?_) rfl
  rwa [suspectsSound, setMedia_media, same]

theorem startWindow_shared (c : Controller) : Shared w c c.startWindow := by
  unfold startWindow
  dsimp only
  exact (testWord_shared c _).trans (setMedia_shared _ _ (Eq.refl _))

theorem trip_shared (c : Controller) : Shared w c c.trip := by
  unfold trip
  exact (setMedia_shared c { c.media with degraded := true } rfl).trans (offerBoth_shared ..)

theorem countRead_shared (c : Controller) (retried : Bool) : Shared w c (c.countRead retried) := by
  unfold countRead
  dsimp only
  have counted : ∀ n, Shared w c (c.setMedia { c.media with consecutive := n }) := fun n =>
    setMedia_shared c { c.media with consecutive := n } rfl
  refine .ite (fun _ => setMedia_shared c _ (by rfl)) fun _ => ?_
  refine Shared.trans ?_ (startWindow_shared _)
  split
  · exact (counted _).trans (trip_shared _)
  · exact counted _

theorem reportSuspect_shared (c : Controller) (lsa : Nat) (kind : SuspectKind) (ch : Channel) :
    Shared w c (c.reportSuspect lsa kind ch) := by
  unfold reportSuspect
  dsimp only
  refine .ite (fun _ => ?_) fun absent => .ite (fun room => ?_) fun _ => setMedia_shared c _ rfl
  · refine .of_move (.media _ fun h => ?_) rfl
    have lsas : ∀ s : Suspect, (if s.lsa = lsa then s.update kind ch else s).lsa = s.lsa := by
      intro s; split <;> rfl
    simpa [suspectsSound, List.map_map, Function.comp_def, lsas] using h
  · refine (Shared.of_move (.media _ fun h => ⟨?_, ?_⟩) rfl).trans (offerBoth_shared ..)
    · rw [setMedia_media, List.length_append, List.length_singleton]
      exact room
    · rw [setMedia_media, List.map_append]
      exact h.2.append (List.nodup_singleton _) (List.disjoint_singleton.mpr (by simpa using absent))

/-! The Engine idle: what an operation makes of the block does not depend on the Engine's work. -/

theorem takeOut_setWork_none (c : Controller) (seq : Nat) (ans : Option Answer) :
    (c.setWork none).takeOut seq ans = (c.takeOut seq ans).setWork none := by
  cases h : c.findRecord seq with
  | none => rw [takeOut_of_none h, takeOut_of_none (c := c.setWork none) h]
  | some r =>
    rw [takeOut_of_found h, takeOut_of_found (c := c.setWork none) h]
    rfl

theorem answerWaiter_setWork_none (c : Controller) (ch : Channel) (e : Nat) (code : AnswerCode) :
    (c.setWork none).answerWaiter ch e code = (c.answerWaiter ch e code).setWork none := by
  cases h : c.claimWaiter ch e with
  | none => rw [answerWaiter_of_none h, answerWaiter_of_none (c := c.setWork none) h]
  | some r =>
    rw [answerWaiter_of_some h, answerWaiter_of_some (c := c.setWork none) h]
    exact takeOut_setWork_none ..

theorem dropClaim_setWork_none (c : Controller) (e : Nat) :
    (c.setWork none).dropClaim offerUntested e = (c.dropClaim offerUntested e).setWork none := by
  cases h : c.claimAt e with
  | none => rw [dropClaim_of_none h, dropClaim_of_none (c := c.setWork none) h]
  | some cl =>
    rw [dropClaim_of_some h, dropClaim_of_some (c := c.setWork none) h]
    have told : ((c.setWork none).setClaim e none).tellHolder offerUntested e cl.holder =
        ((c.setClaim e none).tellHolder offerUntested e cl.holder).setWork none := by
      cases cl.holder <;> rfl
    rw [told]
    cases cl.waiter with
    | none => rfl
    | some ch => exact answerWaiter_setWork_none ..

theorem dropAllClaims_setWork_none (c : Controller) (reason : FallbackReason) :
    (c.setWork none).dropAllClaims reason = (c.dropAllClaims reason).setWork none := by
  unfold dropAllClaims
  split
  · rfl
  · unfold dropClaims
    generalize List.range 16 = l
    induction l generalizing c with
    | nil => rfl
    | cons e l ih => rw [List.foldl_cons, List.foldl_cons, dropClaim_setWork_none, ih]

theorem fallbackEntry_setWork_none (c : Controller) (reason : FallbackReason) :
    (c.setWork none).fallbackEntry reason = (c.fallbackEntry reason).setWork none := by
  have stop : ∀ d : Controller, (d.setWork none).givePendingStop .fallback = (d.givePendingStop .fallback).setWork none :=
    fun d => by simp only [givePendingStop_eq, setWork, setEngine, Option.map_none]
  rw [fallbackEntry_eq, fallbackEntry_eq]
  change (((((c.setTables _).setWork none).dropAllClaims reason).givePendingStop .fallback).offerUntested .a
    _).offerUntested .b _ = _
  rw [dropAllClaims_setWork_none, stop]
  rfl

theorem offer_setWork_none (c : Controller) (ch : Channel) (n : Notice) :
    (c.setWork none).offer ch n = (c.offer ch n).setWork none := by
  have record : (c.setWork none).channelRecord ch = c.channelRecord ch := rfl
  have fault : (c.setWork none).tableFault = c.tableFault.setWork none := fallbackEntry_setWork_none ..
  have untested : ∀ d : Controller, (d.setWork none).offerUntested ch n = (d.offerUntested ch n).setWork none :=
    fun _ => rfl
  unfold offer testWord
  rw [record, fault]
  split <;> exact untested _

/-- The Engine stays with its record through a notice, be it a table fault. -/
theorem offer_work_seq (c : Controller) (ch : Channel) (n : Notice) :
    (c.offer ch n).engine.work.map (·.seq) = c.engine.work.map (·.seq) := by
  unfold offer offerUntested testWord
  rw [modPort_engine]
  split
  · rfl
  · rw [tableFault, fallbackEntry_engine]
    cases c.engine.work <;> rfl

/-! The record at work. -/

theorem withActive_run {c : Controller} {f : Work → Record → Controller}
    (h : ∀ k r, c.engine.work = some k → c.findRecord k.seq = some r → Run w c (f k r)) : Run w c (c.withActive f) := by
  unfold withActive
  split
  · exact .rfl
  · rename_i k hk
    split
    · exact .rfl
    · rename_i r hr
      exact h k r hk hr

/-- The Engine goes on with its record. -/
theorem setWork_shared {c : Controller} {k l : Work} (hk : c.engine.work = some k) (same : l.seq = k.seq) :
    Shared w c (c.setWork (some l)) := .of_move (.engine _ (by simp [hk, same])) rfl

theorem setEngine_shared (c : Controller) (e : Engine) (same : e.work.map (·.seq) = c.engine.work.map (·.seq)) :
    Shared w c (c.setEngine e) := .of_move (.engine e same) rfl

theorem send_shared (c : Controller) (d : DriveCmd) (normal : d.writes = true → c.inFallback = false) :
    Shared w c (c.send d) := .of_move (.send d normal) rfl

/-- The Engine goes on with its record and sends a command that does not write. -/
theorem workSend_shared {c : Controller} {k l : Work} (hk : c.engine.work = some k) (same : l.seq = k.seq)
    (d : DriveCmd) (quiet : d.writes = false) : Shared w c ((c.setWork (some l)).send d) :=
  (setWork_shared hk same).trans (send_shared _ d fun k => absurd (k.symm.trans quiet) (by simp))

/-- The ACTIVE record leaves and the Engine's work on it ends. -/
theorem leave_idle_run {c : Controller} {k : Work} (hk : c.engine.work = some k) (ans : Option Answer) :
    Run w c ((c.setWork none).leave k.seq ans) := by
  have out : Run w c ((c.setWork none).takeOut k.seq ans) := .of_move (.finish ans hk)
  cases h : (c.setWork none).findRecord k.seq with
  | none => rwa [leave_of_none h, ← takeOut_of_none h ans]
  | some r =>
    rw [leave_of_found h]
    exact out.trans (leave_after_shared ..).run

/-- The ACTIVE record fails early and the Engine's work on it ends. -/
theorem failEarly_idle_run {c : Controller} {k : Work} {r : Record} (hk : c.engine.work = some k) (hr : r.seq = k.seq)
    (kind : ErrorKind) (lsa : Nat) : Run w c ((c.setWork none).failEarly r kind lsa) := by
  let d := (c.setDeferred r.channel (some (addFailure (c.work.deferred.get r.channel) r.tag lsa kind))).offer r.channel
    (.deferredError r.tag)
  have told : Run w c d := ((setDeferred_shared ..).trans (offer_shared ..)).run
  obtain ⟨l, hl, same⟩ : ∃ l, d.engine.work = some l ∧ l.seq = k.seq := by
    have := offer_work_seq
      (c.setDeferred r.channel (some (addFailure (c.work.deferred.get r.channel) r.tag lsa kind))) r.channel
      (.deferredError r.tag)
    rw [setDeferred_engine, hk, Option.map_some, Option.map_eq_some_iff] at this
    exact this
  have eq : (c.setWork none).failEarly r kind lsa = (d.setWork none).leave l.seq none := by
    rw [same, ← hr, ← offer_setWork_none]
    rfl
  rw [eq]
  exact told.trans (leave_idle_run hl none)

theorem endActive_run (c : Controller) (code : AnswerCode) (kind : Option ErrorKind) (lsa : Option Nat) :
    Run w c (c.endActive code kind lsa) := by
  refine withActive_run fun k r hk hr => ?_
  have seq := seq_of_findRecord hr
  have left : ∀ ans, Run w c ((c.setWork none).leave r.seq ans) := fun ans => seq ▸ leave_idle_run hk ans
  dsimp only
  refine .ite (fun _ => .ite (fun _ => left _) fun _ => failEarly_idle_run hk seq ..) fun _ => ?_
  refine .ite (fun _ => left _) fun _ => .ite (fun _ => left _) fun _ => .ite (fun _ => ?_) fun _ => left _
  exact .of_move (.deliver _ hk hr)

theorem hardError_run (c : Controller) (kind : ErrorKind) : Run w c (c.hardError kind) :=
  withActive_run fun _ _ _ _ => endActive_run ..

theorem endByStop_run (c : Controller) (st : Stop) : Run w c (c.endByStop st) :=
  withActive_run fun _ _ _ _ => by cases st <;> exact endActive_run ..

theorem abort_run (c : Controller) (kind : ErrorKind) : Run w c (c.abort kind) := by
  refine withActive_run fun k r _ _ => ?_
  dsimp only
  split
  · exact (reportSuspect_shared ..).run.trans (endActive_run ..)
  · exact endActive_run ..

theorem positioned_run (c : Controller) : Run w c c.positioned := by
  refine withActive_run fun k r hk _ => ?_
  have selected : ∀ phase,
      Run w c ((c.setWork (some { k with phase := phase })).send (.selectHead (k.head r))) := fun phase =>
    (workSend_shared (l := { k with phase := phase }) hk rfl _ rfl).run
  cases r.job with
  | seek => exact endActive_run ..
  | _ => exact selected _

theorem recalibrateFor_shared {c : Controller} {k l : Work} (hk : c.engine.work = some k) (same : l.seq = k.seq)
    (target : Nat) (forMark : Bool) : Shared w c (c.recalibrateFor l target forMark) :=
  workSend_shared (l := { l with phase := .recalibrating target forMark }) hk same .recalibrate rfl

theorem seekTo_shared {c : Controller} {k l : Work} (hk : c.engine.work = some k) (same : l.seq = k.seq) (target : Nat) :
    Shared w c (c.seekTo l target) :=
  workSend_shared (l := { l with phase := .seeking target }) hk same (.seek target) rfl

theorem positionAt_run (c : Controller) (target : Nat) : Run w c (c.positionAt target) :=
  withActive_run fun _ _ hk _ => .ite (fun _ => (recalibrateFor_shared hk rfl ..).run)
    fun _ => .ite (fun _ => (seekTo_shared hk rfl ..).run) fun _ => positioned_run c

theorem beginSector_run (c : Controller) : Run w c c.beginSector := by
  refine withActive_run fun k r hk _ => ?_
  have taken : ∀ l : Work, l.seq = k.seq → Run w c (c.setWork (some l)) := fun l same => (setWork_shared hk same).run
  dsimp only
  split
  · exact (taken { k with unconfirmed := true } rfl).trans ((tableFault_shared _).run.trans (endActive_run ..))
  · refine Run.trans (taken _ ?_) (positionAt_run ..)
    rfl

theorem boundary_run (c : Controller) : Run w c c.boundary := by
  refine withActive_run fun k r _ _ => .ite (fun _ => endActive_run ..) fun _ => ?_
  cases k.stop with
  | none => exact beginSector_run c
  | some st => exact endByStop_run ..

/-- A record changes in nothing that a kept condition reads, or lets buffers go. -/
theorem modRecord_run (c : Controller) (seq : Nat) (f : Record → Record)
    (keeps : ∀ r ∈ c.records, (f r).seq = r.seq ∧ (f r).state = r.state ∧ (f r).channel = r.channel ∧
      (f r).buffers.Sublist r.buffers) : Run w c (c.modRecord seq f) := by
  refine .of_move (.records (fun r => if r.seq == seq then f r else r) fun r hr => ?_)
  split
  · exact keeps r hr
  · exact ⟨rfl, rfl, rfl, .refl _⟩

theorem completeSector_run (c : Controller) : Run w c c.completeSector :=
  withActive_run fun _ r _ _ =>
    (modRecord_run c r.seq (fun r => { r with done := r.done + 1 }) fun _ _ => ⟨rfl, rfl, rfl, .refl _⟩).trans
      (boundary_run _)

theorem markSoft_shared (c : Controller) (soft : Bool) : Shared w c (c.markSoft soft) := by
  unfold markSoft
  split
  · exact .rfl
  · rename_i k hk
    exact setWork_shared (l := { k with soft := k.soft || soft }) hk rfl

theorem searchAgain_shared {c : Controller} {k l : Work} (hk : c.engine.work = some k) (same : l.seq = k.seq)
    (purpose : Purpose) : Shared w c (c.searchAgain l purpose) :=
  setWork_shared (l := { l with phase := .searching 0, purpose := purpose }) hk same

theorem headerMiss_run (c : Controller) : Run w c c.headerMiss :=
  withActive_run fun k _ hk _ => .ite (fun _ => (reportSuspect_shared ..).run.trans (hardError_run ..))
    fun _ => (recalibrateFor_shared (l := { k with recovery := true }) hk rfl ..).run

/-- A write that no stop forbids begins in NORMAL mode (R102, R155). -/
theorem writeStop_eq_none {c : Controller} {k : Work} (h : c.writeStop k = none) : c.inFallback = false := by
  unfold writeStop at h
  cases hf : c.inFallback <;> simp_all

theorem beginWrite_run (c : Controller) : Run w c c.beginWrite := by
  refine withActive_run fun k r hk _ => ?_
  dsimp only
  split
  · exact endByStop_run ..
  · rename_i h
    exact ((setWork_shared (l := { k with phase := .writing }) hk rfl).trans
      (send_shared _ _ fun _ => writeStop_eq_none h)).run

theorem beginRead_shared {c : Controller} {k : Work} (hk : c.engine.work = some k) (phase : Phase) :
    Shared w c (c.beginRead k phase) :=
  workSend_shared (l := { k with phase := phase }) hk rfl (.readField k.location) rfl

theorem headerFound_run (c : Controller) : Run w c c.headerFound := by
  refine withActive_run fun k _ hk _ => ?_
  cases k.purpose with
  | read => exact (beginRead_shared hk _).run
  | reread => exact (beginRead_shared hk _).run
  | write => exact beginWrite_run c

theorem storeRead_shared (c : Controller) (r : Record) (words : List Word) : Shared w c (c.storeRead r words) := by
  unfold storeRead
  split
  · exact .of_move (.buffer ..) rfl
  · exact .rfl

theorem readMatched_run (c : Controller) : Run w c c.readMatched := by
  refine withActive_run fun k r _ _ => ?_
  refine Run.trans ?_ (((markSoft_shared ..).trans (countRead_shared ..)).run.trans (completeSector_run _))
  split
  · exact (reportSuspect_shared ..).run
  · exact .rfl

theorem readFailed_run (c : Controller) : Run w c c.readFailed := by
  refine withActive_run fun k r hk _ => ?_
  dsimp only
  refine .ite (fun _ => ?_) fun _ => .ite (fun _ =>
    (searchAgain_shared (l := { k with retry := k.retry + 1 }) hk rfl _).run)
    fun _ => ((reportSuspect_shared ..).trans (countRead_shared ..)).run.trans (hardError_run ..)
  exact ((tableFault_shared c).trans (countRead_shared ..)).run.trans (endByStop_run ..)

theorem beginSlot_run (c : Controller) (slot : Nat) (normal : c.inFallback = false) : Run w c (c.beginSlot slot) := by
  refine withActive_run fun k r hk _ => ?_
  split
  · exact ((setWork_shared (l := { k with phase := .formatting slot }) hk rfl).trans (send_shared _ _ fun _ => normal)).run
  · exact .rfl

theorem slotBoundary_run (c : Controller) (slot : Nat) : Run w c (c.slotBoundary slot) := by
  refine withActive_run fun k r _ _ => ?_
  cases k.stop with
  | some st => exact endByStop_run ..
  | none =>
    cases h : c.writeStop k with
    | some st => exact endByStop_run ..
    | none => exact beginSlot_run c slot (writeStop_eq_none h)

/-- The work on a dispatched record, once the Engine has taken it. -/
theorem startWork_after_run (c : Controller) (r : Record) (verify : Bool) :
    Run w (c.setWork (some (.begin r.seq verify))) (c.startWork r verify) := by
  unfold startWork
  cases r.job with
  | formatTrack => exact positionAt_run ..
  | _ => exact beginSector_run _

end Controller

end Sys2Proof.Machine
end


section
/-! SUPPORT. The Drive Sequencer, the Order Checker and the end of a step as runs of moves (Machine/Sequencer.lean,
Machine/Checker.lean). A change of the Sequencer's state is a move where it keeps the interlock as the state has it. -/

namespace Sys2Proof.Machine

/-- The pack interlock is locked in the state (R135). -/
def SeqState.locks (s : SeqState) : Bool := !(s == .stopped || s == .cooling)

/-- The interlock is locked where the tolerance count is watched. -/
theorem SeqState.locks_of_speedWatched {s : SeqState} (h : s.speedWatched = true) : s.locks = true := by
  cases s <;> simp_all [SeqState.speedWatched, SeqState.locks]

/-- The interlock is locked where a supply-low takes the drive down. -/
theorem SeqState.locks_of_spinning {s : SeqState} (h : s.spinning = true) : s.locks = true := by
  cases s <;> simp_all [SeqState.spinning, SeqState.locks]

namespace Controller

variable {w : Watch}

theorem interlockSound_iff {c : Controller} : c.interlockSound ↔ c.drive.interlockLocked = c.drive.state.locks := .rfl

/-! What leaves the Sequencer alone. -/

theorem deliver_sameRest (c : Controller) (r : Record) (ans : Answer) : c.SameRest (c.deliver r ans) :=
  (modRecord_sameRest ..).trans (modPort_sameRest ..)

theorem withActive_rel {rel : Controller → Controller → Prop} {c : Controller} (refl : rel c c)
    {f : Work → Record → Controller} (h : ∀ k r, rel c (f k r)) : rel c (c.withActive f) := by
  unfold withActive
  split
  · exact refl
  · split
    · exact refl
    · exact h ..

theorem endActive_sameRest (c : Controller) (code : AnswerCode) (kind : Option ErrorKind) (lsa : Option Nat) :
    c.SameRest (c.endActive code kind lsa) := by
  refine withActive_rel .rfl fun k r => ?_
  have idle : ∀ {d : Controller}, (c.setWork none).SameRest d → c.SameRest d := (setWork_sameRest c none).trans
  have leaves : ∀ ans, c.SameRest ((c.setWork none).leave r.seq ans) := fun _ => idle (leave_sameRest ..)
  dsimp only
  split
  · split
    · exact leaves _
    · exact idle (failEarly_sameRest ..)
  · split
    · exact leaves _
    · split
      · exact leaves _
      · split
        · exact idle (deliver_sameRest ..)
        · exact leaves _

theorem reportSuspect_drive (c : Controller) (lsa : Nat) (kind : SuspectKind) (ch : Channel) :
    (c.reportSuspect lsa kind ch).drive = c.drive := by
  unfold reportSuspect
  dsimp only
  split
  · rfl
  · split
    · exact (offerBoth_sameRest ..).drive
    · rfl

theorem abort_drive (c : Controller) (kind : ErrorKind) : (c.abort kind).drive = c.drive := by
  refine withActive_rel (rel := fun c d => d.drive = c.drive) rfl fun k r => ?_
  dsimp only
  rw [(endActive_sameRest ..).drive]
  split
  · exact reportSuspect_drive ..
  · rfl

/-! Changes of the Sequencer. -/

theorem modDrive_shared (c : Controller) (f : Sequencer → Sequencer)
    (interlock : c.interlockSound → (c.modDrive f).interlockSound) : Shared w c (c.modDrive f) :=
  .of_move (.drive f interlock) rfl

/-- The Sequencer goes from one state with the interlock locked to another. -/
theorem modDrive_locked_shared {c : Controller} (up : c.drive.state.locks = true) (f : Sequencer → Sequencer)
    (state : (f c.drive).state.locks = true) (lock : (f c.drive).interlockLocked = c.drive.interlockLocked) :
    Shared w c (c.modDrive f) :=
  modDrive_shared c f fun h => by
    rw [interlockSound_iff] at h ⊢
    exact (lock.trans (h.trans up)).trans state.symm

/-- A command that does not write is sent. -/
theorem sendQuiet_shared (c : Controller) (d : DriveCmd) (quiet : d.writes = false) : Shared w c (c.send d) :=
  send_shared c d fun k => absurd (k.symm.trans quiet) (by simp)

theorem readTimer_shared (c : Controller) (t : TWord) (tenths fallback : Nat) :
    Shared w c (c.readTimer t tenths fallback).1 := by
  unfold readTimer
  split
  · exact .rfl
  · exact tableFault_shared c

theorem readTimer_sameRest (c : Controller) (t : TWord) (tenths fallback : Nat) :
    c.SameRest (c.readTimer t tenths fallback).1 := by
  unfold readTimer
  split
  · exact .rfl
  · exact tableFault_sameRest c

theorem startSpindle_shared (c : Controller) : Shared w c c.startSpindle := by
  unfold startSpindle
  refine (sendQuiet_shared c .lockInterlock rfl).trans ((sendQuiet_shared _ .spindleOn rfl).trans
    ((readTimer_shared ..).trans (modDrive_shared _ _ fun _ => ?_)))
  rfl

theorem tryStart_shared (c : Controller) : Shared w c c.tryStart :=
  .ite (fun _ => startSpindle_shared c) fun _ => .rfl

theorem announce_shared (c : Controller) : Shared w c c.announce := offerBoth_shared ..

theorem announce_drive (c : Controller) : c.announce.drive = c.drive := (offerBoth_sameRest ..).drive

/-- STOPPED is entered from a state with the interlock unlocked. -/
theorem enterStopped_shared {c : Controller} (down : c.drive.state.locks = false) : Shared w c c.enterStopped := by
  refine (modDrive_shared c _ fun h => ?_).trans ((announce_shared _).trans (tryStart_shared _))
  exact (interlockSound_iff.mp h).trans down

theorem readCartridgeLine_shared (c : Controller) : Shared w c c.readCartridgeLine :=
  .ite (fun _ => .rfl) fun _ => .ite
    (fun _ => (modDrive_shared c (fun d => { d with cartridgePresent := true }) fun h => h).trans (fallbackEntry_shared ..))
    fun _ => modDrive_shared c _ fun h => h

theorem readCartridgeLine_state (c : Controller) : c.readCartridgeLine.drive.state = c.drive.state := by
  unfold readCartridgeLine
  split
  · rfl
  · split
    · rw [(fallbackEntry_sameRest ..).drive]
      rfl
    · rfl

theorem enterCooling_shared (c : Controller) : Shared w c c.enterCooling := by
  have cooled : Shared w c
      ((((c.modDrive fun d => { d with state := .cooling, interlockLocked := false }).send
        .unlockInterlock).announce).readCartridgeLine) :=
    (modDrive_shared c _ fun _ => by rfl).trans ((sendQuiet_shared _ _ rfl).trans
      ((announce_shared _).trans (readCartridgeLine_shared _)))
  refine .ite (fun _ => cooled.trans (enterStopped_shared ?_)) fun _ => cooled
  rw [readCartridgeLine_state, announce_drive]
  rfl

theorem spindleOff_shared (c : Controller) : Shared w c c.spindleOff :=
  (modDrive_shared c (fun d => { d with spindleOn := false }) fun h => h).trans (sendQuiet_shared _ _ rfl)

theorem enterSpinningDown_shared {c : Controller} (up : c.drive.state.locks = true) :
    Shared w c c.enterSpinningDown := by
  unfold enterSpinningDown
  split
  · exact (spindleOff_shared c).trans (modDrive_locked_shared (c := c.spindleOff) up _ rfl rfl)
  · exact modDrive_locked_shared up _ rfl rfl

theorem enterLoading_shared {c : Controller} (up : c.drive.state.locks = true) : Shared w c c.enterLoading := by
  unfold enterLoading
  refine (sendQuiet_shared c .headsOn rfl).trans ((readTimer_shared ..).trans (modDrive_locked_shared ?_ _ rfl rfl))
  rw [(readTimer_sameRest ..).drive]
  exact up

theorem enterReady_shared {c : Controller} (up : c.drive.state.locks = true) : Shared w c c.enterReady :=
  (modDrive_locked_shared up (fun d => { d with state := .ready, outOfTolerance := 0 }) rfl rfl).trans
    (announce_shared _)

theorem beginUnload_shared {c : Controller} (up : c.drive.state.locks = true) (idle : Bool) :
    Shared w c (c.beginUnload idle) :=
  Shared.trans (modDrive_locked_shared up _ rfl rfl) (sendQuiet_shared _ .headsOff rfl)

theorem leaveFaulted_shared {c : Controller} (up : c.drive.state.locks = true) : Shared w c c.leaveFaulted :=
  .ite (fun _ => enterCooling_shared c) fun _ => enterSpinningDown_shared up

theorem endForFault_shared (c : Controller) (f : DriveFault) : Shared w c (c.endForFault f) := endAllWaiting_shared ..

theorem endForFault_drive (c : Controller) (f : DriveFault) : (c.endForFault f).drive = c.drive :=
  (endAllWaiting_sameRest ..).drive

theorem enterFaulted_shared {c : Controller} (up : c.drive.state.locks = true) (f : DriveFault) :
    Shared w c (c.enterFaulted f) := by
  have entered : Shared w c (((c.modDrive fun d =>
      { d with state := .faulted f, heads := .unloaded, clearing := false }).announce).endForFault f) :=
    (modDrive_locked_shared up _ rfl rfl).trans ((announce_shared _).trans (endForFault_shared ..))
  refine .ite (fun _ => entered) fun _ => entered.trans (leaveFaulted_shared ?_)
  rw [endForFault_drive, announce_drive]
  rfl

theorem emergencyUnload_shared (c : Controller) : Shared w c c.emergencyUnload :=
  .ite (fun _ => sendQuiet_shared c _ rfl) fun _ => .rfl

theorem emergencyUnload_drive (c : Controller) : c.emergencyUnload.drive = c.drive := by
  unfold emergencyUnload; split <;> rfl

theorem speedFault_run {c : Controller} (up : c.drive.state.locks = true) : Run w c c.speedFault := by
  have unloaded : Run w c (c.abort .speed).emergencyUnload := (abort_run ..).trans (emergencyUnload_shared _).run
  refine unloaded.trans (Shared.run ((readTimer_shared ..).trans (Shared.trans (modDrive_locked_shared ?_ _ rfl rfl)
    (announce_shared _))))
  rw [(readTimer_sameRest ..).drive, emergencyUnload_drive, abort_drive]
  exact up

theorem failFlush_shared (c : Controller) : Shared w c c.failFlush :=
  Shared.foldl_filter c (fun r h d same => failEarly_shared d r _ _ fun o q hq e => by
      simp only [beq_iff_eq] at h
      simp [same o q hq e, h])
    fun d r => failEarly_records_sublist d r _ _

theorem supplyDown_run {c : Controller} (up : c.drive.state.locks = true) : Run w c c.supplyDown := by
  have unloaded : Run w c (c.abort .supply).emergencyUnload := (abort_run ..).trans (emergencyUnload_shared _).run
  have down : Shared w (c.abort .supply).emergencyUnload ((c.abort .supply).emergencyUnload.modDrive fun d =>
      { d with
        heads := .unloaded
        clearing := false
        spinUp := none
        headLoad := none
        recalWait := none
        unloadWait := none }).enterSpinningDown := by
    refine (modDrive_shared _ _ ?_).trans (enterSpinningDown_shared ?_)
    · exact fun h => h
    · rw [modDrive_drive, emergencyUnload_drive, abort_drive]
      exact up
  exact unloaded.trans (.ite (fun _ => (down.trans (failFlush_shared _)).run) fun _ => down.run)

theorem offSequence_shared (c : Controller) : Shared w c c.offSequence := by
  refine .ite (fun _ => .rfl) fun _ => ?_
  split
  · rename_i h
    exact .ite (fun _ => beginUnload_shared (by rw [h]; rfl) _) fun _ => .rfl
  · rename_i h
    exact .ite (fun _ => enterSpinningDown_shared (by rw [h]; rfl)) fun _ => .rfl
  · rename_i h
    exact leaveFaulted_shared (by rw [h]; rfl)
  · exact .rfl

/-! The end of a step. -/

theorem startClearing_shared (c : Controller) : Shared w c c.startClearing :=
  .ite (fun _ => (modDrive_shared c (fun d => { d with clearing := true, clearCount := 1 }) fun h => h).trans
    (sendQuiet_shared _ _ rfl)) fun _ => .rfl

theorem settleReadyWait_shared (c : Controller) : Shared w c c.settleReadyWait :=
  .ite (fun _ => modDrive_shared c _ fun h => h) fun _ => .ite (fun _ => .rfl)
    fun _ => (readTimer_shared ..).trans (modDrive_shared _ _ fun h => h)

theorem settleIdle_shared (c : Controller) (was : Bool) : Shared w c (c.settleIdle was) :=
  .ite (fun _ => modDrive_shared c _ fun h => h) fun _ => .ite
    (fun _ => .ite (fun _ => .rfl) fun _ => tableFault_shared c)
    fun _ => .ite (fun _ => modDrive_shared c _ fun h => h) fun _ => .ite (fun _ => .rfl)
      fun _ => modDrive_shared c _ fun h => h

/-- The frame in progress and its timer are no part of what a kept condition reads. -/
theorem setFrame_shared (c : Controller) (ch : Channel) (out : Option OutFrame) (stall : Timer) :
    Shared w c (c.setPort ch { c.port ch with out := out, stall := stall }) :=
  .of_move (.port ch _ (fun h => h) rfl) rfl

theorem pumpPort_shared (c : Controller) (ch : Channel) : Shared w c (c.pumpPort ch) :=
  .ite (fun _ => .rfl) fun _ => setFrame_shared ..

theorem settle_shared (before after : Controller) : Shared w after (before.settle after) :=
  (startClearing_shared _).trans ((settleReadyWait_shared _).trans ((settleIdle_shared ..).trans
    ((pumpPort_shared _ .a).trans (pumpPort_shared _ .b))))

end Controller

end Sys2Proof.Machine
end


section
/-! SUPPORT. Orders as runs of moves: the checks make room for what acceptance adds (Machine/Checker.lean,
Machine/Orders.lean, Machine/Claims.lean, Machine/Management.lean). -/

namespace Sys2Proof.Machine

namespace Controller

variable {w : Watch}

/-! What the checks of an accepted order have found. -/

theorem runChecks_eq_none {c : Controller} {o : Order} (h : c.runChecks o = none)
    {k : Controller → Order → Option CheckStop} (hk : k ∈ checks) : k c o = none :=
  List.findSome?_eq_none_iff.mp h k hk

/-- Check 10 has found a slot for an order that becomes a record. -/
theorem room_of_runChecks {c : Controller} {o : Order} (h : c.runChecks o = none) (b : c.becomesRecord o = true) :
    c.records.length < 16 := by
  have h10 : c.check10 o = none := runChecks_eq_none h (by simp [checks])
  by_contra full
  have full : Config.maxRecords ≤ c.records.length := Nat.not_lt.mp full
  simp only [check10, b, full, needGood, refuseIf, decide_true, Bool.true_or, if_true] at h10
  split at h10
  · exact nomatch h10
  · split at h10 <;> exact nomatch h10

/-- Check 10 has found no other COMMIT waiting. -/
theorem noCommitWait_of_runChecks {c : Controller} {o : Order} (h : c.runChecks o = none) (f : o.fn = some .commit) :
    c.anyIn .commitWait = false := by
  have h10 : c.check10 o = none := runChecks_eq_none h (by simp [checks])
  by_contra waits
  rw [Bool.not_eq_false] at waits
  simp [check10, f, waits] at h10

theorem takeOrder_run {c : Controller} {o : Order} {accept : Controller → Controller}
    (h : ∀ d : Controller, d.runChecks o = none → Run w d (accept d)) : Run w c (c.takeOrder o accept) := by
  unfold takeOrder
  split
  · exact h c ‹_›
  · exact (answerOrder_shared ..).run
  · refine (tableFault_shared c).run.trans ?_
    dsimp only
    split
    · exact h _ ‹_›
    · exact (answerOrder_shared ..).run
    · exact ((tableFault_shared _).trans (placeAnswer_shared ..)).run

theorem order_run (c : Controller) {o : Order} {accept : Controller → Controller}
    (h : ∀ d : Controller, d.runChecks o = none → Run w d (accept d)) : Run w c (c.order o accept) :=
  .ite (fun _ => .rfl) fun _ => (frameTaken_shared ..).run.trans (takeOrder_run h)

/-! The free buffers. -/

theorem mem_freeBuffers {c : Controller} {b : Nat} : b ∈ c.freeBuffers ↔ b < 12 ∧ b ∉ c.heldBuffers := by
  simp [freeBuffers]

theorem freeBuffers_nodup (c : Controller) : c.freeBuffers.Nodup := List.nodup_range.filter _

theorem setBuffer_shared (c : Controller) (i : Nat) (ws : List Word) : Shared w c (c.setBuffer i ws) :=
  .of_move (.buffer i ws) rfl

theorem fillBuffers_shared (c : Controller) (buffers : List Nat) (data : List Word) :
    Shared w c (c.fillBuffers buffers data) := by
  unfold fillBuffers
  exact Shared.foldl (fun _ _ => setBuffer_shared ..) _ c

@[simp] theorem fillBuffers_work (c : Controller) (buffers : List Nat) (data : List Word) :
    (c.fillBuffers buffers data).work = c.work :=  by
  unfold fillBuffers
  exact foldl_field (·.work) (fun _ _ => setBuffer_work ..) _ c

/-! Records that enter. -/

theorem endInFault_shared (c : Controller) : Shared w c c.endInFault := by
  unfold endInFault
  split
  · exact endForFault_shared ..
  · exact .rfl

/-- A record without buffers enters. -/
theorem addRecord_run (c : Controller) {r : Record} (room : c.records.length < 16) (seq : r.seq = c.work.nextSeq)
    (state : r.state ≠ .active ∧ r.state ≠ .delivering ∧ r.state ≠ .commitWait) (buffers : r.buffers = []) :
    Run w c (c.addRecord r) :=
  .of_move (.add r room seq state (by rw [buffers]; exact .nil) (by simp [buffers]))

theorem acceptDisk_run {c : Controller} {o : Order} (h : c.runChecks o = none) (disk : o.isDisk = true) (job : Job) :
    Run w c (c.acceptDisk o job) :=
  (addRecord_run c (room_of_runChecks h (by simp [becomesRecord, disk])) rfl (by simp [newRecord]) rfl).trans
    (endInFault_shared _).run

/-- What follows the entering of a WRITE: its early answer, and its end in FAULTED. -/
theorem entered_run {c d : Controller} (h : Run w c d) (early : Bool) (ch : Channel) (a : Answer) :
    Run w c (if early = true then d.placeAnswer ch a else d).endInFault :=
  h.trans (Run.trans (.ite (fun _ => (placeAnswer_shared ..).run) fun _ => .rfl) (endInFault_shared _).run)

theorem acceptWrite_run {c : Controller} {o : Order} (h : c.runChecks o = none) (disk : o.isDisk = true)
    (start count : Nat) (data : List Word) : Run w c (c.acceptWrite o start count data) := by
  have room := room_of_runChecks h (by simp [becomesRecord, disk])
  unfold acceptWrite
  dsimp only
  refine (fillBuffers_shared c (c.freeBuffers.take count) data).run.trans
    (entered_run (.of_move (.add _ ?_ ?_ ?_ ?_ ?_)) ..)
  · rwa [records, fillBuffers_work]
  · rw [fillBuffers_work]
    rfl
  · dsimp only [newRecord]
    split <;> simp
  · exact (freeBuffers_nodup c).sublist (List.take_sublist ..)
  · intro b hb
    have free := mem_freeBuffers.mp (List.mem_of_mem_take hb)
    rwa [heldBuffers, records, fillBuffers_work]

theorem acceptRead_run {c : Controller} {o : Order} (h : c.runChecks o = none) (disk : o.isDisk = true) :
    Run w c (c.acceptRead o) := by
  unfold acceptRead
  split
  · exact acceptDisk_run h disk _
  · exact .rfl

theorem acceptVerify_run {c : Controller} {o : Order} (h : c.runChecks o = none) (disk : o.isDisk = true) :
    Run w c (c.acceptVerify o) := by
  unfold acceptVerify
  split
  · exact acceptDisk_run h disk _
  · exact .rfl

theorem acceptWriteOrder_run {c : Controller} {o : Order} (h : c.runChecks o = none) (disk : o.isDisk = true) :
    Run w c (c.acceptWriteOrder o) := by
  unfold acceptWriteOrder
  split
  · exact acceptWrite_run h disk ..
  · exact .rfl

theorem acceptFormat_run {c : Controller} {o : Order} (h : c.runChecks o = none) (disk : o.isDisk = true) :
    Run w c (c.acceptFormat o) := by
  unfold acceptFormat
  split
  · exact acceptDisk_run h disk _
  · exact .rfl

theorem acceptSeek_run {c : Controller} {o : Order} (h : c.runChecks o = none) (disk : o.isDisk = true) :
    Run w c (c.acceptSeek o) := by
  unfold acceptSeek
  split
  · exact acceptDisk_run h disk _
  · exact .rfl

theorem raiseEarly_run (c : Controller) (ch : Channel) : Run w c (c.raiseEarly ch) := by
  refine .of_move (.records _ fun r _ => ?_)
  split <;> exact ⟨rfl, rfl, rfl, .refl _⟩

theorem acceptSync_run {c : Controller} {o : Order} (h : c.runChecks o = none) (fn : o.fn = some .sync) :
    Run w c (c.acceptSync o) := by
  refine .ite (fun early => ?_) fun _ => (placeAnswer_shared ..).run
  have room := room_of_runChecks h (by simp [becomesRecord, fn, early])
  refine (raiseEarly_run c o.channel).trans (addRecord_run _ ?_ rfl (by simp [newRecord]) rfl)
  simpa [raiseEarly, records] using room

theorem acceptCommit_run {c : Controller} {o : Order} (h : c.runChecks o = none) (fn : o.fn = some .commit) :
    Run w c (c.acceptCommit o) :=
  .of_move (.addCommit _ (room_of_runChecks h (by simp [becomesRecord, fn])) rfl rfl rfl
    (noCommitWait_of_runChecks h fn))

/-! The ownership orders. -/

theorem startYieldTimer_shared {c : Controller} {n : Nat} {h : Channel} {t : Timer}
    (wanted : c.claimAt n = some (.wanted h t)) (holder : Channel) : Shared w c (c.startYieldTimer n holder) := by
  unfold startYieldTimer
  split
  · exact .rfl
  · exact .ite (fun _ => tableFault_shared c) fun _ => .ite (fun _ => .rfl)
      fun _ => setClaim_shared c n _ fun _ => by rw [wanted]; rfl

theorem waitForClaim_run {c : Controller} {o : Order} {n : Nat} {holder : Channel} (room : c.records.length < 16)
    (held : c.claimAt n = some (.held holder)) : Run w c (c.waitForClaim o n holder) := by
  have entered : Run w c (c.addRecord { c.newRecord o .claim .claimWait with extent := some n }) := by
    refine addRecord_run c room rfl ?_ rfl
    simp [newRecord]
  have wanted : Run w c (((c.addRecord { c.newRecord o .claim .claimWait with extent := some n }).setClaim n
      (some (.wanted holder none))).offer holder (.claimWanted n)) := by
    refine entered.trans (Shared.run (Shared.trans (setClaim_shared _ n _ fun _ => ?_) (offer_shared ..)))
    exact (congrArg Option.isSome held).symm
  unfold waitForClaim
  dsimp only
  split
  · exact wanted.trans (startYieldTimer_shared ‹_› holder).run
  · exact wanted

/-- The claim that an order finds is one that check 6 finds. -/
theorem orderClaim_eq_some {c : Controller} {o : Order} {n : Nat} {e : ExtentEntry} (h : c.orderClaim o = some (n, e)) :
    c.orderExtent o = some (.found n e) := by
  unfold orderClaim at h
  split at h
  · rename_i hf
    simpa [hf] using h
  · exact nomatch h

/-- A channel other than the holder is the other channel. -/
theorem eq_other_of_ne {h ch : Channel} (ne : h ≠ ch) : h = ch.other := by
  cases h <;> cases ch <;> first | rfl | exact absurd rfl ne

theorem acceptClaim_run {c : Controller} {o : Order} (h : c.runChecks o = none) (fn : o.fn = some .claim) :
    Run w c (c.acceptClaim o) := by
  unfold acceptClaim
  split
  · exact .rfl
  · rename_i n e hc
    refine .ite (fun _ => (answerOrder_shared ..).run) fun ex => ?_
    have exclusive : e.exclusive = true := by simpa using ex
    split
    · rename_i free
      exact ((setClaim_shared c n _ fun _ => by rw [free]; rfl).trans (answerOrder_shared ..)).run
    · rename_i hd held
      refine .ite (fun _ => (answerOrder_shared ..).run) fun other => waitForClaim_run (room_of_runChecks h ?_) held
      have other : hd = o.channel.other := eq_other_of_ne (by simpa using other)
      have waits : c.claimWaits o = true := by simp [claimWaits, orderClaim_eq_some hc, exclusive, held, other]
      simp [becomesRecord, fn, waits]
    · exact (answerOrder_shared ..).run
    · exact (answerOrder_shared ..).run
    · exact (answerOrder_shared ..).run

theorem onClaim_shared (c : Controller) {o : Order} {act : Nat → Claim → Controller}
    (h : ∀ n cl, c.claimAt n = some cl → Shared w c (act n cl)) : Shared w c (c.onClaim o act) := by
  unfold onClaim
  split
  · exact .rfl
  · split
    · exact h _ _ ‹_›
    · exact answerOrder_shared ..

theorem handOver_shared {c : Controller} {n : Nat} {cl : Claim} (h : c.claimAt n = some cl) (o : Order)
    (toWaiter : Bool) : Shared w c (c.handOver o n toWaiter) :=
  enterHandover_shared c n _ _ (fun _ => answerOrder_shared ..) (by rw [h]; rfl)

theorem acceptYield_shared (c : Controller) (o : Order) : Shared w c (c.acceptYield o) := by
  refine onClaim_shared c fun n cl h => ?_
  cases cl with
  | wanted => exact .ite (fun _ => handOver_shared h ..) fun _ => answerOrder_shared ..
  | _ => exact answerOrder_shared ..

theorem acceptKeep_shared (c : Controller) (o : Order) : Shared w c (c.acceptKeep o) := by
  refine onClaim_shared c fun n cl h => ?_
  cases cl with
  | wanted =>
    exact .ite (fun _ => (setClaim_shared c n _ fun _ => by rw [h]; rfl).trans
      ((answerWaiter_shared ..).trans (answerOrder_shared ..))) fun _ => answerOrder_shared ..
  | _ => exact answerOrder_shared ..

theorem withdrawClaim_shared {c : Controller} {n : Nat} {cl : Claim} (h : c.claimAt n = some cl) (o : Order) (v : Claim) :
    Shared w c (c.withdrawClaim o n v) :=
  (setClaim_shared c n _ fun _ => by rw [h]; rfl).trans ((answerWaiter_shared ..).trans (answerOrder_shared ..))

theorem acceptRelease_shared (c : Controller) (o : Order) : Shared w c (c.acceptRelease o) := by
  refine onClaim_shared c fun n cl h => ?_
  cases cl with
  | free => exact answerOrder_shared ..
  | held => exact .ite (fun _ => handOver_shared h ..) fun _ => answerOrder_shared ..
  | wanted => exact .ite (fun _ => handOver_shared h ..) fun _ => withdrawClaim_shared h ..
  | handingOver =>
    exact .ite (fun _ => answerOrder_shared ..) fun _ => .ite (fun _ => withdrawClaim_shared h ..)
      fun _ => answerOrder_shared ..

theorem yieldExpires_shared (c : Controller) (e : Nat) : Shared w c (c.yieldExpires e) := by
  unfold yieldExpires
  split
  · rename_i h
    exact enterHandover_shared c e _ _ (fun _ => offer_shared ..) (by rw [h]; rfl)
  · exact .rfl

/-! Management and inquiries. -/

theorem targetOff_shared (c : Controller) : Shared w c c.targetOff :=
  (modDrive_shared c (fun d => { d with targetOn := false }) fun h => h).trans
    ((endAllWaiting_shared ..).trans (offSequence_shared _))

theorem targetOn_shared (c : Controller) : Shared w c c.targetOn :=
  (modDrive_shared c (fun d => { d with targetOn := true }) fun h => h).trans (tryStart_shared _)

theorem acceptTarget_shared (c : Controller) (o : Order) : Shared w c (c.acceptTarget o) := by
  unfold acceptTarget
  split
  · exact (answerOrder_shared ..).trans (.ite (fun _ => .rfl) fun _ => .ite (fun _ => targetOn_shared _)
      fun _ => targetOff_shared _)
  · exact .rfl

theorem acceptClearDeferred_shared (c : Controller) (o : Order) : Shared w c (c.acceptClearDeferred o) :=
  (placeAnswer_shared ..).trans (setDeferred_shared ..)

theorem clearSuspect_suspects (m : Media) (ops : Operands) :
    (m.clearSuspect ops).suspects.Sublist m.suspects := by
  cases ops with
  | suspect n => exact List.filter_sublist
  | suspectAll => exact List.nil_sublist _
  | _ => exact .refl _

theorem acceptClearSuspect_shared (c : Controller) (o : Order) : Shared w c (c.acceptClearSuspect o) := by
  refine (Shared.of_move (.media _ fun h => ?_) rfl).trans (answerOrder_shared ..)
  have fewer := clearSuspect_suspects c.media (o.operands.getD .none)
  exact ⟨fewer.length_le.trans h.1, h.2.sublist (fewer.map _)⟩

theorem acceptClearMonitor_shared (c : Controller) (o : Order) : Shared w c (c.acceptClearMonitor o) :=
  (setMedia_shared c { c.media with consecutive := 0, degraded := false } rfl).trans
    ((startWindow_shared _).trans (answerOrder_shared ..))

theorem acceptStatus_shared (c : Controller) (o : Order) : Shared w c (c.acceptStatus o) :=
  (placeAnswer_shared ..).trans (modPort_shared _ _ _ (fun _ h => h) fun _ => rfl)

theorem acceptReadSuspect_shared (c : Controller) (o : Order) : Shared w c (c.acceptReadSuspect o) :=
  placeAnswer_shared ..

theorem acceptReadTable_shared (c : Controller) (o : Order) : Shared w c (c.acceptReadTable o) := by
  unfold acceptReadTable
  split
  · exact (placeAnswer_shared ..).trans (.ite (fun _ => tableFault_shared _) fun _ => .rfl)
  · exact .rfl

theorem setStaged_shared (c : Controller) (t : TableSet) : Shared w c (c.setStaged t) :=
  .of_move (.tables _ (fun h => h) (fun _ h => h) fun _ => rfl) rfl

theorem acceptLoadTable_shared (c : Controller) (o : Order) : Shared w c (c.acceptLoadTable o) := by
  unfold acceptLoadTable
  split
  · rename_i table start entries _
    refine .ite (fun _ => answerOrder_shared ..) fun _ =>
      (setStaged_shared c (c.tables.staged.load table start entries).1).trans ?_
    dsimp only
    split
    · exact answerOrder_shared ..
    · exact placeAnswer_shared ..
  · exact .rfl

theorem acceptCopyActive_shared (c : Controller) (o : Order) : Shared w c (c.acceptCopyActive o) := by
  refine .ite (fun _ => answerOrder_shared ..) fun _ => (setStaged_shared c c.tables.active).trans
    (Shared.trans ?_ (answerOrder_shared ..))
  exact .ite (fun _ => .rfl) fun _ => tableFault_shared _

end Controller

end Sys2Proof.Machine
end


section
/-! SUPPORT. The drive arbiter as runs of moves (Machine/Arbiter.lean): a chosen record is still there when it is
dispatched, for what happens meanwhile takes out CLAIM-WAIT records at most. -/

namespace Sys2Proof.Machine

namespace Controller

variable {w : Watch}

/-! What takes out CLAIM-WAIT records at most. -/

/-- Records leave from `c` to `d`, and in a Work List in acceptance order CLAIM-WAIT records at most. -/
structure Stays (c d : Controller) : Prop where
  fewer : d.records.Sublist c.records
  nextSeq : d.work.nextSeq = c.work.nextSeq
  stays : c.sequenceSound → ∀ r ∈ c.records, r.state ≠ .claimWait → r ∈ d.records

namespace Stays

variable {c d e : Controller}

theorem of_work (h : d.work = c.work) : Stays c d :=
  ⟨by rw [records, records, h], by rw [h], fun _ r hr _ => by rwa [records, h]⟩

theorem rfl : Stays c c := of_work (Eq.refl _)

theorem trans (h : Stays c d) (k : Stays d e) : Stays c e where
  fewer := k.fewer.trans h.fewer
  nextSeq := k.nextSeq.trans h.nextSeq
  stays := fun s r hr ne => k.stays (s.sublist h.fewer h.nextSeq) r (h.stays s r hr ne) ne

theorem foldl {α : Type} {f : Controller → α → Controller} (h : ∀ (c : Controller) (a : α), Stays c (f c a)) :
    ∀ (l : List α) (c : Controller), Stays c (l.foldl f c)
  | [], _ => rfl
  | a :: l, c => (h c a).trans (foldl h l (f c a))

end Stays

theorem answerWaiter_stays (c : Controller) (ch : Channel) (e : Nat) (code : AnswerCode) :
    Stays c (c.answerWaiter ch e code) := by
  cases h : c.claimWaiter ch e with
  | none => rw [answerWaiter_of_none h]; exact .rfl
  | some r =>
    obtain ⟨hr, hs, -, -⟩ := claimWaiter_some h
    rw [answerWaiter_of_some h]
    refine ⟨takeOut_records_sublist .., takeOut_nextSeq .., fun s q hq ne => ?_⟩
    rw [takeOut_records, List.mem_filter]
    refine ⟨hq, bne_iff_ne.mpr fun e => ne ?_⟩
    rw [s.eq_of_seq hq hr e, hs]

theorem endDrain_stays (c : Controller) (e : Nat) : Stays c (c.endDrain e) := by
  unfold endDrain
  split
  · split
    · split
      · exact Stays.trans (d := c.setClaim e _) (.of_work (Eq.refl _)) (answerWaiter_stays ..)
      · exact .of_work rfl
    · exact .rfl
  · exact .rfl

theorem drainFalls_stays (c : Controller) (r : Record) : Stays c (c.drainFalls r) := by
  unfold drainFalls
  split
  · exact .rfl
  · split
    · split
      · exact endDrain_stays ..
      · exact .rfl
    · exact .rfl

theorem dropClaim_stays (c : Controller) (e : Nat) : Stays c (c.dropClaim offerUntested e) := by
  cases h : c.claimAt e with
  | none => rw [dropClaim_of_none h]; exact .rfl
  | some cl =>
    rw [dropClaim_of_some h]
    have told : Stays c ((c.setClaim e none).tellHolder offerUntested e cl.holder) :=
      .of_work (by cases cl.holder <;> rfl)
    cases cl.waiter with
    | none => exact told
    | some ch => exact told.trans (answerWaiter_stays ..)

theorem dropAllClaims_stays (c : Controller) (reason : FallbackReason) : Stays c (c.dropAllClaims reason) := by
  unfold dropAllClaims
  split
  · exact .of_work rfl
  · exact Stays.foldl dropClaim_stays _ c

theorem fallbackEntry_stays (c : Controller) (reason : FallbackReason) : Stays c (c.fallbackEntry reason) := by
  rw [fallbackEntry_eq, givePendingStop_eq]
  have tables : Stays c (c.setTables (c.tables.enterFallback reason)) := .of_work (setTables_work ..)
  refine tables.trans ((dropAllClaims_stays _ reason).trans (.of_work ?_))
  simp only [offerUntested, modPort_work, setEngine_work]

theorem testWord_stays (c : Controller) (t : TWord) : Stays c (c.testWord t) := by
  unfold testWord
  split
  · exact .rfl
  · exact fallbackEntry_stays ..

/-! The choice. -/

theorem testQuota_shared (c : Controller) (ch : Channel) : Shared w c (c.testQuota ch) :=
  .ite (fun _ => testWord_shared ..) fun _ => .rfl

theorem testQuotas_shared (c : Controller) : Shared w c c.testQuotas :=
  (testQuota_shared ..).trans (testQuota_shared ..)

theorem testQuota_sameRest (c : Controller) (ch : Channel) : c.SameRest (c.testQuota ch) := by
  unfold testQuota
  split
  · exact testWord_sameRest ..
  · exact .rfl

theorem testQuotas_sameRest (c : Controller) : c.SameRest c.testQuotas :=
  (testQuota_sameRest ..).trans (testQuota_sameRest ..)

theorem askForHeads_shared {c : Controller} (up : c.drive.state.locks = true) : Shared w c c.askForHeads := by
  refine .ite (fun _ => testQuotas_shared c) fun _ => (testQuotas_shared c).trans (enterLoading_shared ?_)
  rw [(testQuotas_sameRest c).drive]
  exact up

theorem mem_eligibles {c : Controller} {r : Record} :
    r ∈ c.eligibles ↔ r ∈ c.records ∧ c.eligible r = true := List.mem_filter

theorem state_of_eligible {c : Controller} {r : Record} (h : c.eligible r = true) :
    r.state = .waiting ∨ r.state = .lingering := by
  simp only [eligible, inTurn, Bool.and_eq_true, Bool.or_eq_true, beq_iff_eq] at h
  exact h.1.1.1

theorem mem_of_mem_nearest {current : Nat} {rs : List Record} {r : Record} (h : r ∈ (nearest current rs).head?) :
    r ∈ rs := List.mem_of_mem_filter (List.mem_of_head? h)

theorem mem_of_sweepChoice {sweep d : Direction} {current : Nat} {rs : List Record} {r : Record}
    (h : sweepChoice sweep current rs = some (r, d)) : r ∈ rs := by
  simp only [sweepChoice] at h
  split at h
  · obtain ⟨q, hq, e⟩ := Option.map_eq_some_iff.mp h
    exact (Prod.mk.inj e).1 ▸ List.mem_of_mem_filter (mem_of_mem_nearest hq)
  · obtain ⟨q, hq, e⟩ := Option.map_eq_some_iff.mp h
    exact (Prod.mk.inj e).1 ▸ List.mem_of_mem_filter (mem_of_mem_nearest hq)

/-- The record that the choice takes is one of the eligible ones. -/
theorem mem_of_pick {c : Controller} {limit : Option Nat} {es : List Record} {r : Record} {d : Direction}
    (h : c.pick limit es = some (r, d)) : r ∈ es := by
  unfold pick at h
  split at h
  · rename_i q hq
    obtain ⟨l, -, hl⟩ := Option.bind_eq_some_iff.mp hq
    cases h
    exact List.mem_of_find?_eq_some hl
  · exact List.mem_of_mem_filter (mem_of_sweepChoice h)

/-! The re-check. -/

theorem recheck_fst (c : Controller) (r : Record) : (c.recheck r).1 = c ∨ (c.recheck r).1 = c.tableFault := by
  unfold recheck
  split
  · exact .inr rfl
  · exact .inl rfl

theorem recheck_shared (c : Controller) (r : Record) : Shared w c (c.recheck r).1 := by
  rcases recheck_fst c r with h | h <;> rw [h]
  · exact .rfl
  · exact tableFault_shared c

theorem recheck_stays (c : Controller) (r : Record) : Stays c (c.recheck r).1 := by
  rcases recheck_fst c r with h | h <;> rw [h]
  · exact .rfl
  · exact fallbackEntry_stays ..

theorem moveRecord_run (c : Controller) (r : Record) (n : Nat) : Run w c (c.moveRecord r n) :=
  (modRecord_run c r.seq (fun q => { q with extent := some n }) fun _ _ => ⟨rfl, rfl, rfl, .refl _⟩).trans
    (drainFalls_shared ..).run

theorem resolve_run (c : Controller) (r : Record) : Run w c (c.resolve r) := by
  unfold resolve
  split
  · exact .rfl
  · split
    · exact moveRecord_run ..
    · exact .rfl

/-- The new extent number apart, a record of the list is what it was. -/
theorem mem_of_moveRecord {c : Controller} {r q : Record} {n : Nat} (h : q ∈ (c.moveRecord r n).records) :
    ∃ o ∈ c.records, q.seq = o.seq ∧ q.state = o.state := by
  obtain ⟨o, ho, rfl⟩ := List.mem_map.mp ((drainFalls_stays ..).fewer.subset h)
  refine ⟨o, ho, ?_⟩
  split <;> exact ⟨rfl, rfl⟩

theorem mem_of_resolve {c : Controller} {r q : Record} (h : q ∈ (c.resolve r).records) :
    ∃ o ∈ c.records, q.seq = o.seq ∧ q.state = o.state := by
  unfold resolve at h
  split at h
  · exact ⟨q, h, rfl, rfl⟩
  · split at h
    · exact mem_of_moveRecord h
    · exact ⟨q, h, rfl, rfl⟩

/-- The record itself stays, with its number and its state. -/
theorem resolve_there {c : Controller} (s : c.sequenceSound) {r : Record} (hr : r ∈ c.records)
    (ne : r.state ≠ .claimWait) :
    ∃ o ∈ (c.resolve r).records, o.seq = r.seq ∧ o.state = r.state ∧ o.buffers = r.buffers := by
  unfold resolve
  split
  · exact ⟨r, hr, rfl, rfl, rfl⟩
  · split
    · rename_i n _ _
      have there : { r with extent := some n } ∈ (c.modRecord r.seq fun q => { q with extent := some n }).records :=
        List.mem_map.mpr ⟨r, hr, if_pos (beq_self_eq_true _)⟩
      have ordered : (c.modRecord r.seq fun q => { q with extent := some n }).sequenceSound :=
        s.map rfl rfl fun q _ => by split <;> rfl
      exact ⟨_, (drainFalls_stays _ r).stays ordered _ there ne, rfl, rfl, rfl⟩
    · exact ⟨r, hr, rfl, rfl, rfl⟩

/-- No record is ACTIVE. -/
def NoActive (c : Controller) : Prop := ∀ r ∈ c.records, r.state ≠ .active

theorem NoActive.fewer {c d : Controller} (h : c.NoActive) (s : d.records.Sublist c.records) : d.NoActive :=
  fun r hr => h r (s.subset hr)

theorem NoActive.resolve {c : Controller} (h : c.NoActive) (r : Record) : (c.resolve r).NoActive := fun q hq => by
  obtain ⟨o, ho, -, hs⟩ := mem_of_resolve hq
  rw [hs]
  exact h o ho

theorem noActive_iff {c : Controller} : c.NoActive ↔ c.anyIn .active = false := by
  simp [NoActive, anyIn]

theorem turnAway_shared {c : Controller} (idle : w = .holders → c.NoActive) (r : Record) :
    Shared w c (c.turnAway r) := by
  unfold turnAway
  split
  · exact failEarly_shared _ _ _ _ fun e q hq _ => idle e q hq
  · exact leave_shared _ _ _ fun e q hq _ => idle e q hq

/-- A record that waits on the drive, and is there, is dispatched. -/
theorem dispatch_run {c : Controller} {r : Record} (idle : w.ordered = true → c.NoActive)
    (there : w.ordered = true → ∃ o ∈ c.records, o.seq = r.seq ∧ (o.state = .waiting ∨ o.state = .lingering) ∧
      o.buffers = r.buffers) (es : List Record) (sweep : Direction) (extent : Option Nat) (verify : Bool) :
    Run w c (c.dispatch r es sweep extent verify) :=
  Run.trans (.of_move (.dispatch r es sweep extent verify idle there)) (startWork_after_run ..)

theorem Watch.ordered_of_holders {w : Watch} (h : w = .holders) : w.ordered = true := by rw [h]; rfl

/-- A chosen record, eligible a moment ago, is dispatched or turned away. -/
theorem chosen_run {c d : Controller} (between : Stays c d) {r : Record} (hr : r ∈ c.eligibles)
    (idle : w.ordered = true → c.NoActive) (sound : Ordered w c) (es : List Record) (sweep : Direction)
    (extent : Option Nat) (verify : Bool) : Run w d ((d.resolve r).dispatch r es sweep extent verify) := by
  obtain ⟨hr, he⟩ := mem_eligibles.mp hr
  have waits := state_of_eligible he
  have ne : r.state ≠ .claimWait := by rcases waits with h | h <;> rw [h] <;> decide
  refine (resolve_run d r).trans (dispatch_run (fun o => ((idle o).fewer between.fewer).resolve r) (fun o => ?_) ..)
  have later : d.sequenceSound := (sound o).sublist between.fewer between.nextSeq
  obtain ⟨q, hq, hseq, hstate, hbuffers⟩ := resolve_there later (between.stays (sound o) r hr ne) ne
  exact ⟨q, hq, hseq, by rwa [hstate], hbuffers⟩

theorem choose_run : ∀ (n : Nat) (c : Controller), (w.ordered = true → c.NoActive) → Run w c (c.choose n)
  | 0, _, _ => .rfl
  | n + 1, c, idle => by
    unfold choose
    dsimp only
    have quotas := testQuotas_shared (w := w) c
    have idle0 : w.ordered = true → c.testQuotas.NoActive := fun o => (idle o).fewer quotas.fewer
    have tested := testWord_shared (w := w) c.testQuotas c.testQuotas.tables.active.drive.w4
    refine .ite (fun _ => quotas.run) fun _ => quotas.run.trans ?_
    split
    · exact tested.run
    · rename_i r sweep hp
      have rechecked := recheck_shared (w := w) (c.testQuotas.testWord c.testQuotas.tables.active.drive.w4) r
      have stays := (testWord_stays c.testQuotas c.testQuotas.tables.active.drive.w4).trans (recheck_stays _ r)
      split
      · rename_i d extent verify hd
        rw [hd] at rechecked stays
        exact .of_ordered fun sound => (tested.trans rechecked).run.trans
          (chosen_run stays (mem_of_pick hp) idle0 sound ..)
      · rename_i d _ _ hd
        rw [hd] at rechecked stays
        have left : w.ordered = true → (d.resolve r).NoActive := fun o =>
          ((idle0 o).fewer stays.fewer).resolve r
        have turned : Shared w (d.resolve r) ((d.resolve r).turnAway r) :=
          turnAway_shared (fun e => left (Watch.ordered_of_holders e)) r
        exact (tested.trans rechecked).run.trans ((resolve_run d r).trans (turned.run.trans
          (choose_run n _ fun o => (left o).fewer turned.fewer)))

theorem arbitrate_run (c : Controller) : Run w c c.arbitrate :=
  .ite (fun _ => .rfl) fun idle => .ite
    (fun _ => choose_run _ c fun _ => noActive_iff.mpr (by simpa using idle))
    fun _ => .ite (fun parked => (askForHeads_shared (by rw [beq_iff_eq.mp parked]; rfl)).run) fun _ => .rfl

end Controller

end Sys2Proof.Machine
end


section
/-! SUPPORT. The drive's reports, the links, the resets and the commit as runs of moves; every command as one
(Machine/Transfers.lean, DriveEvents.lean, Links.lean, Resets.lean, TableOrders.lean). -/

namespace Sys2Proof.Machine

namespace Controller

variable {w : Watch}

/-! The drive's reports to the Engine. -/

theorem engineSeekComplete_run (c : Controller) : Run w c c.engineSeekComplete := by
  refine withActive_run fun k r hk _ => ?_
  dsimp only
  split
  · rename_i target forMark _
    refine (setEngine_shared c _ ?_).run.trans (seekTo_shared (k := k) ?_ rfl target).run
    · rfl
    · exact hk
  · refine (setEngine_shared c _ ?_).run.trans (positioned_run _)
    rfl
  · exact .rfl

theorem headsLoaded_run {c : Controller} (up : c.drive.state.locks = true) : Run w c c.headsLoaded := by
  have loaded : Shared w c ((c.modDrive fun d => { d with recalWait := none, heads := .loaded }).setEngine
      { c.engine with cylinder := 0, recalPending := false }) :=
    (modDrive_shared c (fun d => { d with recalWait := none, heads := .loaded }) fun h => h).trans
      (setEngine_shared _ _ rfl)
  refine Shared.run (.ite (fun _ => loaded.trans (enterReady_shared ?_)) fun _ => loaded.trans (beginUnload_shared ?_ _))
  · exact up
  · exact up

theorem seekCompleted_run (c : Controller) : Run w c c.seekCompleted :=
  .ite (fun loading => .ite (fun _ => headsLoaded_run (by rw [beq_iff_eq.mp loading]; rfl)) fun _ => .rfl)
    fun _ => engineSeekComplete_run c

theorem seekFailed_run (c : Controller) : Run w c c.seekFailed := by
  refine withActive_run fun k r _ _ => ?_
  split
  · exact (setEngine_shared c _ (by rfl)).run.trans (hardError_run ..)
  · exact .rfl

theorem recalibrationFailed_run (c : Controller) : Run w c c.recalibrationFailed := by
  refine withActive_run fun k r _ _ => ?_
  split
  · exact (setEngine_shared c _ (by rfl)).run.trans (hardError_run ..)
  · exact .rfl

theorem headerPasses_run (c : Controller) (cylinder : Word) (head sector : Nat) (check : Word) :
    Run w c (c.headerPasses cylinder head sector check) := by
  refine withActive_run fun k r _ _ => ?_
  split
  · split
    · exact headerFound_run c
    · exact headerMiss_run c
    · exact .rfl
    · exact .rfl
  · exact .rfl

theorem fieldRead_run (c : Controller) (words : List Word) (check : Word) : Run w c (c.fieldRead words check) := by
  refine withActive_run fun k r _ _ => ?_
  split
  · exact (storeRead_shared c r words).run.trans (.ite (fun _ => readMatched_run _) fun _ => readFailed_run _)
  · exact .rfl

theorem fieldWritten_run (c : Controller) : Run w c c.fieldWritten := by
  refine withActive_run fun k r hk _ => ?_
  split
  · exact .ite (fun _ => (searchAgain_shared hk rfl _).run) fun _ => completeSector_run c
  · exact .rfl

theorem verifyMismatch_run {c : Controller} {k : Work} (hk : c.engine.work = some k) (r : Record) :
    Run w c (c.verifyMismatch k r) := by
  refine .ite (fun _ => (reportSuspect_shared ..).run.trans (hardError_run ..)) fun _ => ?_
  split
  · exact endByStop_run ..
  · exact (searchAgain_shared (l := { k with rewrite := true }) hk rfl _).run

theorem rereadDone_run (c : Controller) (words : List Word) (check : Word) : Run w c (c.rereadDone words check) := by
  refine withActive_run fun k r hk _ => ?_
  split
  · exact .ite (fun _ => (markSoft_shared ..).run.trans (completeSector_run _)) fun _ => verifyMismatch_run hk r
  · exact .rfl

theorem slotWritten_run (c : Controller) : Run w c c.slotWritten := by
  refine withActive_run fun k r _ _ => ?_
  split
  · exact .ite (fun _ => endActive_run ..) fun _ => slotBoundary_run ..
  · exact .rfl

/-! The events of the Drive Sequencer. -/

theorem spinUpLock_shared (c : Controller) (lock : Bool) : Shared w c (c.spinUpLock lock) := by
  refine .ite (fun due => ?_) fun _ => .rfl
  simp only [Bool.and_eq_true, beq_iff_eq] at due
  have up : (c.modDrive fun d => { d with spinUp := none }).drive.state.locks = true := by
    rw [modDrive_drive, due.1.1]
    rfl
  have stopped := modDrive_shared (w := w) c (fun d => { d with spinUp := none }) fun h => h
  exact .ite (fun _ => stopped.trans (enterLoading_shared up)) fun _ => stopped.trans (enterSpinningDown_shared up)

theorem enginePulse_run (c : Controller) : Run w c c.enginePulse := by
  refine withActive_run fun k r hk _ => ?_
  split
  · exact Shared.run (setWork_shared hk (by rfl))
  · exact headerMiss_run c
  · exact slotBoundary_run ..
  · exact .rfl

theorem pulse_state (d : Sequencer) (period : Nat) :
    (d.pulse period).state = d.state ∧ (d.pulse period).interlockLocked = d.interlockLocked := by
  unfold Sequencer.pulse Sequencer.countRevolution
  repeat' split
  all_goals exact ⟨rfl, rfl⟩

theorem missedPulse_state (d : Sequencer) :
    d.missedPulse.state = d.state ∧ d.missedPulse.interlockLocked = d.interlockLocked := by
  unfold Sequencer.missedPulse
  split <;> exact ⟨rfl, rfl⟩

/-- A change that keeps state and interlock is a move. -/
theorem modDrive_same_shared (c : Controller) (f : Sequencer → Sequencer)
    (same : (f c.drive).state = c.drive.state ∧ (f c.drive).interlockLocked = c.drive.interlockLocked) :
    Shared w c (c.modDrive f) :=
  modDrive_shared c f fun h => by
    rw [interlockSound_iff] at h ⊢
    rw [modDrive_drive, same.1, same.2, h]

theorem locks_of_speedFaultDue {c : Controller} (h : c.drive.speedFaultDue = true) : c.drive.state.locks = true := by
  simp only [Sequencer.speedFaultDue, Bool.and_eq_true] at h
  exact SeqState.locks_of_speedWatched h.1

theorem indexPulse_run (c : Controller) (period : Nat) (lock : Bool) : Run w c (c.indexPulse period lock) :=
  (modDrive_same_shared c (·.pulse period) (pulse_state ..)).run.trans (.ite
    (fun due => speedFault_run (locks_of_speedFaultDue due))
    fun _ => (spinUpLock_shared ..).run.trans (enginePulse_run _))

theorem pulseMissing_run (c : Controller) : Run w c c.pulseMissing :=
  (modDrive_same_shared c (·.missedPulse) (missedPulse_state _)).run.trans (.ite
    (fun due => speedFault_run (locks_of_speedFaultDue due)) fun _ => .rfl)

theorem writeFaulted_run (c : Controller) : Run w c c.writeFaulted := by
  refine withActive_run fun k r _ _ => ?_
  split
  · exact (reportSuspect_shared ..).run.trans (hardError_run ..)
  · exact .ite (fun _ => (reportSuspect_shared ..).run.trans (hardError_run ..)) fun _ => hardError_run ..
  · exact .rfl

theorem writeFaultRaised_run (c : Controller) : Run w c c.writeFaultRaised :=
  (modDrive_shared c (fun d => { d with writeFaultLine := true }) fun h => h).run.trans (writeFaulted_run _)

theorem faultClearWaited_shared (c : Controller) (raised : Bool) : Shared w c (c.faultClearWaited raised) := by
  refine .ite (fun _ => .rfl) fun due => ?_
  simp only [Bool.not_eq_true', Bool.not_eq_false, Bool.and_eq_true, beq_iff_eq] at due
  have line := modDrive_shared (w := w) c (fun d => { d with writeFaultLine := raised }) fun h => h
  refine .ite (fun _ => ?_) fun _ => .ite (fun _ => ?_) fun _ => ?_
  · exact line.trans ((modDrive_shared _ (fun d => { d with clearing := false }) fun h => h).trans (offSequence_shared _))
  · exact line.trans ((modDrive_shared _ (fun d => { d with clearCount := d.clearCount + 1 }) fun h => h).trans
      (sendQuiet_shared _ _ rfl))
  · refine line.trans ((sendQuiet_shared _ .headsOff rfl).trans (enterFaulted_shared ?_ _))
    change c.drive.state.locks = true
    rw [due.2]
    rfl

theorem supplyLow_run (c : Controller) : Run w c c.supplyLow := by
  refine (modDrive_shared c (fun d => { d with supplyGood := false }) fun h => h).run.trans (.ite
    (fun spins => supplyDown_run (SeqState.locks_of_spinning spins))
    fun _ => .ite (fun _ => (spindleOff_shared _).run) fun _ => .rfl)

theorem supplyReturn_shared (c : Controller) : Shared w c c.supplyReturn :=
  (modDrive_shared c (fun d => { d with supplyGood := true }) fun h => h).trans (tryStart_shared _)

theorem cartridgeChange_shared (c : Controller) (present : Bool) : Shared w c (c.cartridgeChange present) :=
  (modDrive_shared c (fun d => { d with cartridgeLine := present }) fun h => h).trans (.ite (fun _ => .rfl)
    fun _ => (readCartridgeLine_shared _).trans (tryStart_shared _))

theorem spindleRests_shared (c : Controller) : Shared w c c.spindleRests := by
  refine .ite (fun _ => modDrive_shared c _ fun h => h) fun _ => ?_
  have rested : Shared w c (c.readCoolDown.1.modDrive fun d =>
      { d.rest with restedOff := true, coolDown := some c.readCoolDown.2 }) :=
    (readTimer_shared ..).trans (modDrive_shared _ _ fun h => h)
  exact rested.trans (.ite (fun _ => enterCooling_shared _) fun _ => .rfl)

theorem coolDownEnds_shared (c : Controller) : Shared w c c.coolDownEnds := by
  refine .ite (fun _ => ?_) fun _ => .rfl
  refine (modDrive_shared c (fun d => { d with coolDown := none }) fun h => h).trans (.ite
    (fun cooling => enterStopped_shared ?_) fun _ => tryStart_shared _)
  rw [beq_iff_eq.mp cooling]
  rfl

theorem spinUpEnds_shared (c : Controller) : Shared w c c.spinUpEnds := by
  refine .ite (fun due => ?_) fun _ => .rfl
  simp only [Bool.and_eq_true, beq_iff_eq] at due
  refine (modDrive_shared c (fun d => { d with spinUp := none }) fun h => h).trans ((spindleOff_shared _).trans
    (enterFaulted_shared ?_ _))
  change c.drive.state.locks = true
  rw [due.1]
  rfl

theorem headLoadEnds_shared (c : Controller) : Shared w c c.headLoadEnds :=
  .ite (fun _ => (modDrive_shared c (fun d => { d with headLoad := none, recalWait := some Config.loadingRecalMs })
    fun h => h).trans (sendQuiet_shared _ _ rfl)) fun _ => .rfl

theorem loadingRecalFails_shared (c : Controller) : Shared w c c.loadingRecalFails := by
  refine .ite (fun due => ?_) fun _ => .rfl
  simp only [Bool.and_eq_true, beq_iff_eq] at due
  refine (modDrive_shared c (fun d => { d with recalWait := none }) fun h => h).trans
    ((sendQuiet_shared _ .headsOff rfl).trans (enterFaulted_shared ?_ _))
  change c.drive.state.locks = true
  rw [due.1]
  rfl

theorem unloaded_shared (c : Controller) : Shared w c c.unloaded := by
  refine .ite (fun due => ?_) fun _ => .rfl
  simp only [Bool.and_eq_true, beq_iff_eq] at due
  have up : (c.modDrive fun d => { d with unloadWait := none, heads := .unloaded }).drive.state.locks = true := by
    rw [modDrive_drive, due.1]
    rfl
  exact (modDrive_shared c (fun d => { d with unloadWait := none, heads := .unloaded }) fun h => h).trans (.ite
    (fun _ => enterSpinningDown_shared up)
    fun _ => (modDrive_locked_shared up (fun d => { d with state := .parked }) rfl rfl).trans (announce_shared _))

theorem idleEnds_shared (c : Controller) : Shared w c c.idleEnds := by
  refine .ite (fun due => beginUnload_shared ?_ _) fun _ => .rfl
  simp only [Bool.and_eq_true, beq_iff_eq] at due
  rw [due.1]
  rfl

theorem readyWaitEnds_shared (c : Controller) : Shared w c c.readyWaitEnds :=
  .ite (fun _ => (modDrive_shared c (fun d => { d with readyWait := none }) fun h => h).trans (endAllWaiting_shared ..))
    fun _ => .rfl

/-! The links. -/

theorem linkRises_shared (c : Controller) (ch : Channel) : Shared w c (c.linkRises ch) :=
  .ite (fun _ => (modPort_shared c ch (fun p => { p with link := .attached }) (fun _ h => h) fun _ => rfl).trans
    (offer_shared ..)) fun _ => .rfl

theorem discardFrame_shared (c : Controller) (ch : Channel) (cause : DiscardCause) :
    Shared w c (c.discardFrame ch cause) :=
  .ite (fun _ => .rfl) fun _ => modPort_shared c ch _ (fun _ h => h) fun _ => rfl

theorem escalationEnds_shared (c : Controller) (ch : Channel) : Shared w c (c.escalationEnds ch) :=
  .ite (fun _ => .of_move (.port ch _ (fun h => h) rfl) rfl) fun _ => .rfl

theorem dataFrameTaken_run (c : Controller) (ch : Channel) : Run w c (c.dataFrameTaken ch) := by
  unfold dataFrameTaken
  split
  · exact .rfl
  · exact modRecord_run c _ _ fun r _ => ⟨rfl, rfl, rfl, List.drop_sublist ..⟩

/-- A record at the head of a Delivery Queue is DELIVERING. -/
theorem state_of_head {c : Controller} (s : c.sequenceSound) (h : c.deliverySound) {ch : Channel} {seq : Nat}
    (head : (c.port ch).delivery.head? = some seq) {r : Record} (hr : r ∈ c.records) (e : r.seq = seq) :
    r.state = .delivering := by
  obtain ⟨q, hq, hs, hd, -⟩ := (h ch seq).mp (List.mem_of_head? head)
  rw [s.eq_of_seq hr hq (e.trans hs.symm), hd]

theorem deliveryTaken_run (c : Controller) (ch : Channel) (h : w = .holders → c.deliverySound) :
    Run w c (c.deliveryTaken ch) := by
  unfold deliveryTaken
  split
  · exact .rfl
  · rename_i seq head
    refine .of_ordered fun o => (leave_shared c seq none fun e r hr hs => ?_).run
    rw [state_of_head (o.sound e) (h e) head hr hs]
    decide

/-- A port that loses only what no Delivery Queue holds keeps the Delivery Queues. -/
theorem frameDone_run (c : Controller) (ch : Channel) (source : FrameSource) (h : w = .holders → c.deliverySound) :
    Run w c (c.frameDone ch source) := by
  have ended : Shared w c (c.modPort ch (·.frameEnds)) := modPort_shared c ch _ (fun _ h => h) fun _ => rfl
  have queues : w = .holders → (c.modPort ch (·.frameEnds)).deliverySound := fun e d n => by
    have same : ((c.modPort ch (·.frameEnds)).port d).delivery = (c.port d).delivery := by cases ch <;> cases d <;> rfl
    rw [same]
    exact h e d n
  cases source with
  | data => exact ended.run.trans (dataFrameTaken_run ..)
  | deliveryAnswer => exact ended.run.trans (deliveryTaken_run _ ch queues)
  | answer =>
    exact (ended.trans (modPort_shared _ ch (fun p => { p with ready := p.ready.drop 1 }) (fun _ h => h)
      fun _ => rfl)).run
  | notice =>
    refine (ended.trans (modPort_shared _ ch (fun p => { p with notices := p.notices.drop 1 }) (fun p h => ?_)
      fun _ => rfl)).run
    exact ⟨(List.drop_sublist 1 p.notices).length_le.trans h.1, h.2.sublist (List.drop_sublist ..)⟩
  | stopped => exact ended.run

theorem takeWord_run (c : Controller) (ch : Channel) (h : w = .holders → c.deliverySound) :
    Run w c (c.takeWord ch) := by
  unfold takeWord
  dsimp only
  split
  · exact .rfl
  · split
    · exact (setFrame_shared ..).run
    · exact frameDone_run c ch _ h

theorem stallEnds_run (c : Controller) (ch : Channel) (h : w = .holders → c.deliverySound) :
    Run w c (c.stallEnds ch) := by
  refine .ite (fun _ => ?_) fun _ => .rfl
  split
  · exact .rfl
  · rename_i r hr
    obtain ⟨seq, head, found⟩ := Option.bind_eq_some_iff.mp hr
    refine .of_ordered fun o => (leave_shared c r.seq _ fun e q hq hs => ?_).run
    rw [state_of_head (o.sound e) (h e) head hq (hs.trans (seq_of_findRecord found))]
    decide

/-! The resets. -/

theorem waiterLeaves_shared (c : Controller) (r : Record) : Shared w c (c.waiterLeaves r) := by
  unfold waiterLeaves
  split
  · split
    · rename_i hc
      exact .ite (fun _ => setClaim_shared c _ _ fun _ => by rw [hc]; rfl) fun _ => .rfl
    · exact .rfl
  · exact .rfl

theorem state_of_waits {r : Record} (h : r.waits = true) : r.state ≠ .active := by
  intro e
  simp [Record.waits, e] at h

theorem resetRecord_shared (c : Controller) (ans : Option (Record → Answer)) {r : Record} (h : r.waits = true)
    (same : w = .holders → ∀ q ∈ c.records, q.seq = r.seq → q = r) : Shared w c (c.resetRecord ans r) :=
  (leave_shared c r.seq _ fun e q hq hs => by rw [same e q hq hs]; exact state_of_waits h).trans
    (waiterLeaves_shared ..)

theorem resetRecord_records_sublist (c : Controller) (ans : Option (Record → Answer)) (r : Record) :
    (c.resetRecord ans r).records.Sublist c.records :=
  (waiterLeaves_shared (w := .lists) ..).fewer.trans (leave_records_sublist ..)

/-- The waiting records of a set leave. -/
theorem resetWaiting_shared (c : Controller) (ans : Option (Record → Answer)) (p : Record → Bool)
    (h : ∀ r, p r = true → r.waits = true) :
    Shared w c ((c.records.filter p).foldl (fun c r => c.resetRecord ans r) c) :=
  Shared.foldl_filter c (fun r hr d same => resetRecord_shared d ans (h r hr) same)
    fun d r => resetRecord_records_sublist d ans r

/-- The DELIVERING records of a set leave. -/
theorem abandon_shared (c : Controller) (p : Record → Bool) (h : ∀ r, p r = true → r.state = .delivering) :
    Shared w c ((c.records.filter p).foldl (fun c r => c.leave r.seq none) c) :=
  Shared.foldl_filter c (fun r hr d same => leave_shared d r.seq none fun e q hq hs => by
      rw [same e q hq hs, h r hr]
      decide)
    fun d r => leave_records_sublist d r.seq none

/-- A record that has left is not there. -/
theorem leave_gone {c : Controller} {seq : Nat} {ans : Option Answer} {q : Record}
    (h : q ∈ (c.leave seq ans).records) : q.seq ≠ seq := by
  cases hf : c.findRecord seq with
  | none =>
    rw [leave_of_none hf] at h
    exact findRecord_eq_none hf q h
  | some r =>
    rw [leave_of_found hf] at h
    have := (leave_after_shared (w := .lists) (c.takeOut seq ans) r).fewer.subset h
    rw [takeOut_records] at this
    simpa using (List.mem_filter.mp this).2

theorem foldl_leave_sublist : ∀ (l : List Record) (c : Controller),
    (l.foldl (fun c r => c.leave r.seq none) c).records.Sublist c.records
  | [], _ => .refl _
  | r :: l, c => (foldl_leave_sublist l (c.leave r.seq none)).trans (leave_records_sublist ..)

theorem foldl_leave_gone : ∀ {l : List Record} {c : Controller} {q : Record},
    q ∈ (l.foldl (fun c r => c.leave r.seq none) c).records → ∀ r ∈ l, q.seq ≠ r.seq := by
  intro l
  induction l with
  | nil => exact fun _ _ h => absurd h (by simp)
  | cons r l ih =>
    intro c q h o ho
    rcases List.mem_cons.mp ho with rfl | ho
    · exact leave_gone ((foldl_leave_sublist l _).subset h)
    · exact ih h o ho

/-- The DELIVERING records of a set have gone once they have left. -/
theorem abandon_gone {c : Controller} {p : Record → Bool} {q : Record}
    (h : q ∈ ((c.records.filter p).foldl (fun c r => c.leave r.seq none) c).records) : p q = false := by
  by_contra hp
  have there := List.mem_filter.mpr ⟨(foldl_leave_sublist ..).subset h, Bool.not_eq_false _ ▸ hp⟩
  exact foldl_leave_gone h q there rfl

theorem removeRecords_shared (c : Controller) (ch : Channel) : Shared w c (c.removeRecords ch) :=
  (resetWaiting_shared c none _ fun _ h => (Bool.and_eq_true_iff.mp h).2).trans
    (abandon_shared _ _ fun _ h => beq_iff_eq.mp (Bool.and_eq_true_iff.mp h).2)

/-- No DELIVERING record of the channel is left (R173). -/
theorem removeRecords_gone {c : Controller} {ch : Channel} {r : Record} (h : r ∈ (c.removeRecords ch).records)
    (d : r.state = .delivering) : r.channel ≠ ch := by
  have := abandon_gone h
  simpa [d] using this

theorem silence_run (c : Controller) (ch : Channel) : Run w c (c.silence ch) := by
  refine .of_move (.records _ fun r _ => ?_)
  split <;> exact ⟨rfl, rfl, rfl, .refl _⟩

theorem mem_silence {c : Controller} {ch : Channel} {r : Record} (h : r ∈ (c.silence ch).records) :
    ∃ q ∈ c.records, r.state = q.state ∧ r.channel = q.channel := by
  obtain ⟨q, hq, rfl⟩ := List.mem_map.mp h
  refine ⟨q, hq, ?_⟩
  split <;> exact ⟨rfl, rfl⟩

theorem resetChannel_run (c : Controller) (ch : Channel) (level : Nat) : Run w c (c.resetChannel ch level) := by
  have removed : Run w c (((c.removeRecords ch).silence ch).setDeferred ch none) :=
    (removeRecords_shared c ch).run.trans ((silence_run ..).trans (setDeferred_shared ..).run)
  refine removed.trans (Run.trans (.of_move (.emptyDelivery ch _ (fun _ => by exact ⟨Nat.zero_le _, List.nodup_nil⟩) rfl
    fun _ r hr hd => ?_)) (offerBoth_shared ..).run)
  obtain ⟨q, hq, hs, hc⟩ := mem_silence hr
  rw [hc]
  exact removeRecords_gone hq (hs ▸ hd)

theorem keepMark_seq (k : Work) : k.keepMark.seq = k.seq := by
  unfold Work.keepMark
  split <;> rfl

theorem stopAndMark_shared (c : Controller) (ch : Channel) : Shared w c (c.stopAndMark ch) := by
  refine (givePendingStop_shared c (.level2 ch)).trans (setEngine_shared _ _ ?_)
  dsimp only
  rw [Option.map_map]
  exact congrArg (Option.map · _) (funext fun k => keepMark_seq k)

theorem recover_shared (c : Controller) (ch : Channel) : Shared w c (c.recover ch) :=
  modPort_shared c ch _ (fun _ h => h) fun _ => rfl

theorem levelOne_run (c : Controller) (ch : Channel) : Run w c (c.levelOne ch) :=
  (resetChannel_run ..).trans (recover_shared ..).run

theorem levelTwo_run (c : Controller) (ch : Channel) : Run w c (c.levelTwo ch) :=
  (stopAndMark_shared ..).run.trans ((resetChannel_run ..).trans (recover_shared ..).run)

theorem levelThree_run (c : Controller) (ch : Channel) : Run w c (c.levelThree ch) := by
  have timers : Shared w c { c with claims := c.claims.map (Option.map Claim.timerStopped) } :=
    .of_move (.claims _ fun _ n => by
      rw [claimAt, Vector.getElem?_map]
      cases c.claims[n]? with
      | none => rfl
      | some v => exact Option.isSome_map) rfl
  exact (timers.trans ((resetWaiting_shared _ _ _ fun _ h => h).trans (abandon_shared _ _ fun _ h =>
    beq_iff_eq.mp h))).run.trans (.of_move (.level3 (some ch)))

theorem resetFrame_run (c : Controller) (ch : Channel) {take : Controller → Controller}
    (h : ∀ d : Controller, Run w d (take d)) : Run w c (c.resetFrame ch take) :=
  .ite (fun _ => .rfl) fun _ => .ite (fun _ => (frameTaken_shared ..).run)
    fun _ => (frameTaken_shared ..).run.trans (h _)

theorem frameLevelOne_run (c : Controller) (ch : Channel) : Run w c (c.frameLevelOne ch) :=
  .ite (fun _ => levelTwo_run ..) fun _ => levelOne_run ..

theorem frameLevelThree_run (c : Controller) (ch : Channel) : Run w c (c.frameLevelThree ch) :=
  (testWord_shared ..).run.trans (.ite (fun _ => levelThree_run ..) fun _ => levelTwo_run ..)

theorem linkFalls_run (c : Controller) (ch : Channel) : Run w c (c.linkFalls ch) :=
  .ite (fun _ => .rfl) fun _ => (resetChannel_run ..).trans
    (modPort_shared _ ch (fun p => { p with link := .detached, escalation := none, inbound := [] }) (fun _ h => h)
      fun _ => rfl).run

/-- The monitor begins anew, and a notice says so. -/
theorem freshMonitor_shared (c : Controller) (n : Notice) :
    Shared w c ((c.setMedia { c.media with consecutive := 0, degraded := false }).startWindow.offerBoth n) :=
  (setMedia_shared c { c.media with consecutive := 0, degraded := false } rfl).trans
    ((startWindow_shared _).trans (offerBoth_shared ..))

theorem levelThreeValues_run {c : Controller} (idle : c.NoActive) (sender : Channel) :
    Run w c (c.levelThreeValues sender) := by
  unfold levelThreeValues
  dsimp only
  have fallen := (Run.of_move (w := w) (.restart fun _ => idle)).trans (fallbackEntry_shared _ .reset).run
  exact fallen.trans ((freshMonitor_shared ..).run.trans (.of_move (.level3 none)))

theorem flushEnds_run (c : Controller) : Run w c c.flushEnds := by
  unfold flushEnds
  split
  · refine .ite (fun done => levelThreeValues_run (noActive_iff.mpr ?_) _) fun _ => .rfl
    simp only [flushDone, Bool.and_eq_true, Bool.not_eq_true'] at done
    exact done.1
  · exact .rfl

/-! The commit. -/

theorem compareClaim_shared (hw : w ≠ .claims) (c : Controller) (n : Nat) : Shared w c (c.compareClaim n) := by
  unfold compareClaim
  split
  · exact .ite (fun _ => .rfl) fun _ => dropClaim_shared hw c (fun _ _ _ => offer_shared ..) n
  · exact .rfl

/-- The claims compared, with the table change of a commit (R150 steps 1 to 4). -/
def commitStore (c : Controller) : Controller :=
  let c1 := (List.range 16).foldl (·.compareClaim ·) c
  c1.setTables { c1.tables with active := c1.tables.staged, mode := .normal, remapUnconfirmed := false }

theorem commitTables_eq (c : Controller) : c.commitTables = c.commitStore.makeClaims.offerBoth .tablesCommitted := rfl

/-- The claim states made by a commit are those that the new extents ask for (R67, R80). -/
theorem makeClaims_claimsSound (c : Controller) : c.makeClaims.claimsSound := by
  intro n e he
  have hn : n < 16 := (Vector.getElem?_eq_some_iff.mp he).1
  have entry : c.tables.active.extents[n] = e := (Vector.getElem?_eq_some_iff.mp he).2
  have claim : c.makeClaims.claimAt n = claimAfterCommit e c.claims[n] := by
    simp [claimAt, makeClaims, hn, entry]
  rw [claim, claimAfterCommit]
  cases e.claimable <;> rfl

theorem commitTables_shared (hw : w ≠ .mode) (c : Controller) : Shared w c c.commitTables := by
  have parts : ∀ {w : Watch}, w ≠ .mode → w ≠ .claims → Shared w c c.commitStore.makeClaims := fun {w} hm hc =>
    (Shared.foldl (compareClaim_shared hc) _ c).trans ((Shared.of_move (.tables _ (fun _ u => absurd u (by simp))
      (fun k => absurd k hm) fun k => absurd k hc) rfl).trans
      (.of_move (.claims _ fun k => absurd k hc) rfl))
  rw [commitTables_eq]
  refine Shared.trans ?_ (offerBoth_shared ..)
  by_cases hc : w = .claims
  · exact ⟨.of_move (.jump hc (makeClaims_claimsSound _)), (parts (w := .lists) (by simp) (by simp)).fewer⟩
  · exact parts hw hc

theorem commit_shared (hw : w ≠ .mode) {c : Controller} {r : Record} (hr : r ∈ c.records) (idle : r.state ≠ .active) :
    Shared w c (c.commit r) := by
  unfold commit
  split
  · exact leave_shared_of_mem hr idle _
  · have made := commitTables_shared hw c
    refine ⟨.of_ordered fun o => made.run.trans (leave_shared _ _ _ fun e q hq hs => ?_).run,
      (leave_records_sublist ..).trans made.fewer⟩
    rw [made.eq_of_seq (o.sound e) hq hr hs]
    exact idle

theorem quietPoint_shared (hw : w ≠ .mode) (c : Controller) : Shared w c c.quietPoint := by
  refine .ite (fun _ => .rfl) fun idle => ?_
  split
  · exact .rfl
  · rename_i r found
    have waits : r.state = .commitWait := by simpa using List.find?_some found
    exact commit_shared hw (List.mem_of_find?_eq_some found) (by rw [waits]; decide)

end Controller

open Controller in
/-- Every command is a run of moves; the commit alone leaves FALLBACK. -/
theorem effect_run {w : Watch} (i : Instr) (c : Controller) (commits : i = .commitQuietPoint → w ≠ .mode)
    (delivery : w = .holders → c.deliverySound) : Run w c (i.effect c) := by
  cases i with
  | powerOn => exact .of_move (.powerOn ..)
  | linkPresentRises => exact (linkRises_shared ..).run
  | linkPresentFalls => exact linkFalls_run ..
  | frameDiscarded => exact (discardFrame_shared ..).run
  | resetLevel1 => exact resetFrame_run c _ fun _ => frameLevelOne_run ..
  | resetLevel2 => exact resetFrame_run c _ fun _ => levelTwo_run ..
  | resetLevel3 => exact resetFrame_run c _ fun _ => frameLevelThree_run ..
  | level3Values => exact flushEnds_run c
  | escalationTimerExpiry => exact (escalationEnds_shared ..).run
  | undefinedFunction => exact order_run c fun _ _ => .rfl
  | null => exact order_run c fun _ _ => (answerOrder_shared ..).run
  | read => exact order_run c fun _ h => acceptRead_run h rfl
  | write => exact order_run c fun _ h => acceptWriteOrder_run h rfl
  | verify => exact order_run c fun _ h => acceptVerify_run h rfl
  | formatTrack => exact order_run c fun _ h => acceptFormat_run h rfl
  | seek => exact order_run c fun _ h => acceptSeek_run h rfl
  | sync => exact order_run c fun _ h => acceptSync_run h rfl
  | claim => exact order_run c fun _ h => acceptClaim_run h rfl
  | yield => exact order_run c fun _ _ => (acceptYield_shared ..).run
  | keep => exact order_run c fun _ _ => (acceptKeep_shared ..).run
  | release => exact order_run c fun _ _ => (acceptRelease_shared ..).run
  | status => exact order_run c fun _ _ => (acceptStatus_shared ..).run
  | readSuspect => exact order_run c fun _ _ => (acceptReadSuspect_shared ..).run
  | readTable => exact order_run c fun _ _ => (acceptReadTable_shared ..).run
  | loadTable => exact order_run c fun _ _ => (acceptLoadTable_shared ..).run
  | copyActive => exact order_run c fun _ _ => (acceptCopyActive_shared ..).run
  | commit => exact order_run c fun _ h => acceptCommit_run h rfl
  | setDriveTarget => exact order_run c fun _ _ => (acceptTarget_shared ..).run
  | clearDeferred => exact order_run c fun _ _ => (acceptClearDeferred_shared ..).run
  | clearSuspect => exact order_run c fun _ _ => (acceptClearSuspect_shared ..).run
  | clearMonitor => exact order_run c fun _ _ => (acceptClearMonitor_shared ..).run
  | outboundWordTaken ch => exact takeWord_run c ch delivery
  | stallLimit ch => exact stallEnds_run c ch delivery
  | arbiterChoice => exact arbitrate_run c
  | commitQuietPoint => exact (quietPoint_shared (commits rfl) c).run
  | syncCompletion => exact (completeSyncs_shared ..).run
  | drainEnd => exact (endDrain_shared ..).run
  | yieldTimerExpiry => exact (yieldExpires_shared ..).run
  | targetOffFlushDone => exact (offSequence_shared c).run
  | seekComplete => exact seekCompleted_run c
  | seekTimeout => exact seekFailed_run c
  | recalibrationTimeout => exact recalibrationFailed_run c
  | loadingRecalTimeout => exact (loadingRecalFails_shared c).run
  | indexPulse => exact indexPulse_run ..
  | missingPulse => exact pulseMissing_run c
  | headerRead => exact headerPasses_run ..
  | dataFieldRead => exact fieldRead_run ..
  | dataFieldWritten => exact fieldWritten_run c
  | verifyRereadDone => exact rereadDone_run ..
  | formatSlotWritten => exact slotWritten_run c
  | writeFault => exact writeFaultRaised_run c
  | faultClearWaitExpiry => exact (faultClearWaited_shared ..).run
  | supplyLow => exact supplyLow_run c
  | supplyReturn => exact (supplyReturn_shared c).run
  | cartridgeInserted => exact (cartridgeChange_shared ..).run
  | cartridgeRemoved => exact (cartridgeChange_shared ..).run
  | spindleAtRest => exact (spindleRests_shared c).run
  | coolDownExpiry => exact (coolDownEnds_shared c).run
  | spinUpLimitExpiry => exact (spinUpEnds_shared c).run
  | headLoadExpiry => exact (headLoadEnds_shared c).run
  | unloadComplete => exact (unloaded_shared c).run
  | idleExpiry => exact (idleEnds_shared c).run
  | readyWaitExpiry => exact (readyWaitEnds_shared c).run

end Sys2Proof.Machine
end


section
/-! The conditions that every step keeps (O51 to O58): each is kept by every move. -/

namespace Sys2Proof.Machine

/-- What every move keeps, a run of moves keeps. -/
theorem Moves.keeps {w : Watch} {p : Controller → Prop} (k : ∀ {c d : Controller}, Move w c d → p c → p d)
    {c d : Controller} (m : Moves w c d) (h : p c) : p d := by
  induction m with
  | refl => exact h
  | tail _ m ih => exact k m ih

/-- A step leaves the block alone or settles the change of the command at the front. -/
theorem step_next {s t : State} (h : step s = .next t) :
    t.ctl = s.ctl ∨ ∃ i rest, s.pending = i :: rest ∧ t.ctl = s.ctl.settle (i.effect s.ctl) := by
  cases hp : s.pending with
  | nil =>
    simp only [step, hp] at h
    rw [← Host.Outcome.next.inj h]
    exact .inl rfl
  | cons i rest =>
    simp only [step, hp] at h
    rw [exec_next h]
    exact .inr ⟨i, rest, rfl, rfl⟩

/-- Every step is a run of moves. -/
theorem step_run {w : Watch} (hw : w ≠ .mode) {s t : State} (h : step s = .next t)
    (delivery : w = .holders → s.ctl.deliverySound) : Run w s.ctl t.ctl := by
  rcases step_next h with e | ⟨i, rest, -, e⟩ <;> rw [e]
  · exact .rfl
  · exact (effect_run i s.ctl (fun _ => hw) delivery).trans (Controller.settle_shared ..).run

/-- What every move keeps, every step keeps. -/
theorem kept_of_moves {p : Controller → Prop} (w : Watch) (hw : w ≠ .mode) (unordered : w.ordered = false)
    (k : ∀ {c d : Controller}, Move w c d → p c → p d) : Kept p := fun s _ hs h =>
  Moves.keeps k ((step_run hw h (fun e => by subst e; exact nomatch unordered)).moves
    (fun o => by rw [unordered] at o; exact nomatch o)) hs

/-! Notice Queues and the Suspect List. -/

@[simp] theorem Port.levelThree_notices (p : Port) : p.levelThree.notices = [] := by
  unfold Port.levelThree; dsimp only; split <;> rfl

@[simp] theorem Port.levelThree_delivery (p : Port) : p.levelThree.delivery = [] := by
  unfold Port.levelThree; dsimp only; split <;> rfl

theorem Port.levelThree_noticesSound (p : Port) : p.levelThree.noticesSound := by
  simp [Port.noticesSound]

theorem Port.powerOn_noticesSound : Port.powerOn.noticesSound := by simp [Port.noticesSound, Port.powerOn]

namespace Controller

theorem noticesSound_iff {c : Controller} : c.noticesSound ↔ ∀ ch, (c.port ch).noticesSound :=
  ⟨fun h ch => by cases ch <;> [exact h.1; exact h.2], fun h => ⟨h .a, h .b⟩⟩

/-- Only the notices of the ports count. -/
theorem noticesSound_congr {c d : Controller} (e : ∀ ch, (d.port ch).notices = (c.port ch).notices)
    (h : c.noticesSound) : d.noticesSound :=
  noticesSound_iff.mpr fun ch => by
    rw [Port.noticesSound, e]
    exact noticesSound_iff.mp h ch

theorem noticesSound_setPort {c : Controller} {ch : Channel} {p : Port} (h : c.noticesSound)
    (hp : (c.port ch).noticesSound → p.noticesSound) : (c.setPort ch p).noticesSound := by
  cases ch <;> [exact ⟨hp h.1, h.2⟩; exact ⟨h.1, hp h.2⟩]

end Controller

theorem Move.noticesSound {c d : Controller} (m : Move .lists c d) (h : c.noticesSound) : d.noticesSound := by
  cases m with
  | port ch p notices => exact Controller.noticesSound_setPort h notices
  | emptyDelivery ch p notices => exact Controller.noticesSound_setPort h notices
  | takeOut seq ans => exact Controller.noticesSound_congr (fun ch => Controller.takeOut_notices c seq ans ch) h
  | @finish k ans =>
    exact Controller.noticesSound_congr (fun ch => Controller.takeOut_notices (c.setWork none) k.seq ans ch) h
  | @deliver k r ans => exact Controller.noticesSound_setPort (c := (c.setWork none).modRecord r.seq _) h fun h => h
  | jump watched => exact nomatch watched
  | restart => exact ⟨Port.levelThree_noticesSound _, Port.levelThree_noticesSound _⟩
  | powerOn => exact ⟨Port.powerOn_noticesSound, Port.powerOn_noticesSound⟩
  | engine | dispatch | records | add | addCommit | work | claims | tables | media | drive | send | buffer | level3 =>
    exact h

theorem Move.suspectsSound {c d : Controller} (m : Move .lists c d) (h : c.suspectsSound) : d.suspectsSound := by
  cases m with
  | takeOut seq ans =>
    rw [Controller.suspectsSound, (Controller.takeOut_sameRest ..).media]
    exact h
  | finish ans =>
    rw [Controller.suspectsSound, (Controller.takeOut_sameRest ..).media]
    exact h
  | media m suspects => exact suspects h
  | jump watched => exact nomatch watched
  | powerOn => exact ⟨Nat.zero_le _, .nil⟩
  | port | emptyDelivery | deliver | engine | dispatch | records | add | addCommit | work | claims | tables | drive
  | send | buffer | level3 | restart => exact h

/-- Settles O52: notices and suspect reports are added within the capacity and only where they are new. -/
theorem boundedListsStaySound : Obligations.BoundedListsStaySound :=
  ⟨kept_of_moves .lists nofun rfl Move.noticesSound, kept_of_moves .lists nofun rfl Move.suspectsSound⟩

/-! The interlock. -/

theorem Move.interlockSound {c d : Controller} (m : Move .lists c d) (h : c.interlockSound) : d.interlockSound := by
  cases m with
  | takeOut seq ans =>
    rw [Controller.interlockSound, (Controller.takeOut_sameRest ..).drive]
    exact h
  | finish ans =>
    rw [Controller.interlockSound, (Controller.takeOut_sameRest ..).drive]
    exact h
  | drive f interlock => exact interlock h
  | jump watched => exact nomatch watched
  | powerOn => rfl
  | port | emptyDelivery | deliver | engine | dispatch | records | add | addCommit | work | claims | tables | media
  | send | buffer | level3 | restart => exact h

/-- Settles O53: every change of the Sequencer's state goes with the interlock, or stays among the locked states. -/
theorem interlockFollowsTheState : Obligations.InterlockFollowsTheState :=
  kept_of_moves .lists nofun rfl Move.interlockSound

/-! The mark of the Remap Table. -/

theorem Controller.unconfirmedSound_congr {c d : Controller} (e : d.tables = c.tables) (h : c.unconfirmedSound) :
    d.unconfirmedSound := by
  rw [Controller.unconfirmedSound, Controller.inFallback, e]
  exact h

theorem Move.unconfirmedSound {c d : Controller} (m : Move .lists c d) (h : c.unconfirmedSound) :
    d.unconfirmedSound := by
  cases m with
  | takeOut seq ans => exact Controller.unconfirmedSound_congr (Controller.takeOut_tables ..) h
  | finish ans => exact Controller.unconfirmedSound_congr (c := c) (Controller.takeOut_tables ..) h
  | tables t unconfirmed => exact unconfirmed h
  | jump watched => exact nomatch watched
  | powerOn => exact fun _ => ⟨rfl, fun e he => Controller.emptyRemap_unused he⟩
  | port | emptyDelivery | deliver | engine | dispatch | records | add | addCommit | work | claims | media | drive
  | send | buffer | level3 | restart => exact h

/-- Settles O54: only a fallback entry that empties the Remap Table sets the mark, and only a commit leaves FALLBACK. -/
theorem unconfirmedMeansFallbackWithoutRemap : Obligations.UnconfirmedMeansFallbackWithoutRemap :=
  kept_of_moves .lists nofun rfl Move.unconfirmedSound

/-! The Work List. -/

/-- What every move keeps of a Work List in acceptance order, every step keeps with that order. -/
theorem kept_of_ordered_moves {p : Controller → Prop}
    (k : ∀ {c d : Controller}, Move .dispatches c d → c.sequenceSound → p c → p d) :
    Kept fun c => c.sequenceSound ∧ p c := fun s _ hs h => by
  obtain ⟨ordered, hp⟩ := hs
  have run := (step_run (w := .dispatches) nofun h nofun).moves fun _ => ordered
  exact Moves.keeps (p := fun c => c.sequenceSound ∧ p c)
    (fun m h => ⟨m.sequenceSound rfl h.1, k m h.1 h.2⟩) run ⟨ordered, hp⟩

theorem Move.listSound {w : Watch} {c d : Controller} (m : Move w c d) (unwatched : w ≠ .claims) (h : c.listSound) :
    d.listSound := by
  cases m with
  | takeOut seq ans => exact (Controller.takeOut_records_sublist ..).length_le.trans h
  | finish ans => exact (Controller.takeOut_records_sublist (c.setWork none) ..).length_le.trans h
  | deliver ans =>
    rw [Controller.listSound, Controller.deliver_records, List.length_map]
    exact h
  | dispatch r es sweep extent verify =>
    change (c.dispatchRecords r es extent).length ≤ 16
    rw [Controller.dispatchRecords_eq_map, List.length_map]
    exact h
  | records f =>
    change (c.records.map f).length ≤ 16
    rw [List.length_map]
    exact h
  | add r room =>
    rw [Controller.listSound, Controller.addRecord_records, List.length_append]
    exact room
  | addCommit r room =>
    change (c.addRecord r).records.length ≤ 16
    rw [Controller.addRecord_records, List.length_append]
    exact room
  | work f records =>
    change (f c.work).records.length ≤ 16
    rw [records]
    exact h
  | jump watched => exact absurd watched unwatched
  | restart => exact Nat.zero_le _
  | powerOn => exact Nat.zero_le _
  | port | emptyDelivery | engine | claims | tables | media | drive | send | buffer | level3 => exact h

/-- Settles O55: records enter at the tail, with the next number, where check 10 has found room. -/
theorem workListStaysOrderedAndWithinSixteen : Obligations.WorkListStaysOrderedAndWithinSixteen :=
  kept_of_ordered_moves fun m _ h => m.listSound nofun h

namespace Controller

/-! The ACTIVE record. -/

theorem oneActive_iff {c : Controller} : c.oneActive ↔ c.records.countP (·.state == .active) ≤ 1 := by
  rw [oneActive, List.countP_eq_length_filter]

/-- Records changed one by one, none of which becomes ACTIVE, have no more ACTIVE ones. -/
theorem oneActive_map {c d : Controller} {f : Record → Record} (e : d.records = c.records.map f)
    (k : ∀ r ∈ c.records, (f r).state = .active → r.state = .active) (h : c.oneActive) : d.oneActive := by
  rw [oneActive_iff] at h ⊢
  rw [e, List.countP_map]
  refine (List.countP_mono_left fun r hr ha => ?_).trans h
  simp only [Function.comp_apply, beq_iff_eq] at ha ⊢
  exact k r hr ha

theorem oneActive_sublist {c d : Controller} (s : d.records.Sublist c.records) (h : c.oneActive) : d.oneActive :=
  (s.filter _).length_le.trans h

/-- At most one record of a Work List in acceptance order has a number. -/
theorem sequenceSound.count_le_one {c : Controller} (h : c.sequenceSound) (n : Nat) :
    c.records.countP (·.seq == n) ≤ 1 := by
  have := List.nodup_iff_count_le_one.mp h.nodup n
  rwa [List.count, List.countP_map] at this

end Controller

theorem Move.oneActive {c d : Controller} (m : Move .dispatches c d) (s : c.sequenceSound) (h : c.oneActive) :
    d.oneActive := by
  cases m with
  | takeOut seq ans => exact Controller.oneActive_sublist (Controller.takeOut_records_sublist ..) h
  | finish ans => exact Controller.oneActive_sublist (Controller.takeOut_records_sublist (c.setWork none) ..) h
  | deliver ans =>
    refine Controller.oneActive_map (c := c) (Controller.deliver_records ..) (fun r _ ha => ?_) h
    split at ha
    · exact nomatch ha
    · exact ha
  | dispatch r es sweep extent verify idle =>
    rw [Controller.oneActive_iff]
    change (c.dispatchRecords r es extent).countP (·.state == .active) ≤ 1
    rw [Controller.dispatchRecords_eq_map, List.countP_map]
    refine (List.countP_mono_left fun o ho ha => ?_).trans (s.count_le_one r.seq)
    rw [Function.comp_apply] at ha
    by_contra ne
    rw [if_neg ne] at ha
    have active : o.state = .active := by
      split at ha
      · simpa [Record.passOver] using ha
      · simpa using ha
    exact idle rfl o ho active
  | records f keeps => exact Controller.oneActive_map (c := c) rfl (fun r hr ha => (keeps r hr).2.1 ▸ ha) h
  | add r _ _ state =>
    rw [Controller.oneActive_iff, Controller.addRecord_records, List.countP_append]
    simpa [List.countP_cons, state.1] using Controller.oneActive_iff.mp h
  | addCommit r _ _ state =>
    rw [Controller.oneActive_iff]
    change (c.addRecord r).records.countP _ ≤ 1
    rw [Controller.addRecord_records, List.countP_append]
    simpa [List.countP_cons, state] using Controller.oneActive_iff.mp h
  | work f records => exact Controller.oneActive_sublist (c := c) (by rw [Controller.records, Controller.modWork_work, records]; exact .refl _) h
  | jump watched => exact nomatch watched
  | restart => exact Nat.zero_le _
  | powerOn => exact Nat.zero_le _
  | port | emptyDelivery | engine | claims | tables | media | drive | send | buffer | level3 => exact h

/-- Settles O56: a record becomes ACTIVE only where none is, and the others keep their states. -/
theorem atMostOneRecordIsActive : Obligations.AtMostOneRecordIsActive := kept_of_ordered_moves Move.oneActive

end Sys2Proof.Machine
end


section
/-! The conditions that every step keeps: buffers, claim states, the holders of the records' states; and what a step
from FALLBACK sends (O51, O57 to O59). -/

namespace Sys2Proof.Machine

namespace Controller

/-! Buffers. -/

/-- Fewer buffers held, in their order, stay sound. -/
theorem buffersSound_sublist {c d : Controller} (s : d.heldBuffers.Sublist c.heldBuffers) (h : c.buffersSound) :
    d.buffersSound := ⟨h.1.sublist s, fun i hi => h.2 i (s.subset hi)⟩

theorem buffersSound_of_fewer {c d : Controller} (s : d.records.Sublist c.records) (h : c.buffersSound) :
    d.buffersSound := buffersSound_sublist (s.flatMap _) h

/-- Records changed one by one, each keeping buffers of its own at most. -/
theorem buffersSound_map {c d : Controller} {f : Record → Record} (e : d.records = c.records.map f)
    (k : ∀ r ∈ c.records, (f r).buffers.Sublist r.buffers) (h : c.buffersSound) : d.buffersSound := by
  refine buffersSound_sublist ?_ h
  rw [heldBuffers, e, heldBuffers]
  generalize c.records = l at k
  induction l with
  | nil => exact .refl _
  | cons r l ih =>
    rw [List.map_cons, List.flatMap_cons, List.flatMap_cons]
    exact (k r (List.mem_cons_self ..)).append (ih fun q hq => k q (List.mem_cons_of_mem _ hq))

theorem buffersSound_addRecord {c : Controller} {r : Record} (apart : r.buffers.Nodup)
    (fresh : ∀ b ∈ r.buffers, b < 12 ∧ b ∉ c.heldBuffers) (h : c.buffersSound) : (c.addRecord r).buffersSound := by
  have held : (c.addRecord r).heldBuffers = c.heldBuffers ++ r.buffers := by
    simp [heldBuffers]
  rw [buffersSound, held]
  refine ⟨h.1.append apart fun b hb hr => (fresh b hr).2 hb, fun i hi => ?_⟩
  rcases List.mem_append.mp hi with hi | hi
  · exact h.2 i hi
  · exact (fresh i hi).1

/-- The buffers of a dispatched record are its own, or free ones. -/
theorem dispatchBuffers_eq (c : Controller) (r : Record) :
    c.dispatchBuffers r = r.buffers ∨ ∃ n, c.dispatchBuffers r = c.freeBuffers.take n := by
  unfold dispatchBuffers
  split
  · exact .inr ⟨_, rfl⟩
  · exact .inl rfl

/-- One record's buffers replaced by free ones leave every buffer with one record. -/
theorem buffersSound_replace {c d : Controller} {f : Record → Record} (e : d.records = c.records.map f) (seq : Nat)
    (s : c.sequenceSound) {bs : List Nat} (apart : bs.Nodup) (fresh : ∀ b ∈ bs, b < 12 ∧ b ∉ c.heldBuffers)
    (k : ∀ r ∈ c.records, (f r).buffers = if r.seq = seq then bs else r.buffers) (h : c.buffersSound) :
    d.buffersSound := by
  have held : ∀ r ∈ c.records, ∀ b ∈ r.buffers, b ∈ c.heldBuffers := fun r hr b hb => List.mem_flatMap.mpr ⟨r, hr, hb⟩
  obtain ⟨each, pairs⟩ := List.nodup_flatMap.mp h.1
  rw [buffersSound, heldBuffers, e, List.flatMap_map, List.nodup_flatMap]
  refine ⟨⟨fun r hr => ?_, ?_⟩, fun i hi => ?_⟩
  · rw [k r hr]
    split
    · exact apart
    · exact each r hr
  · have seqs : c.records.Pairwise fun q r => q.seq < r.seq := List.pairwise_map.mp s.1
    refine (pairs.and seqs).imp_of_mem fun {q r} hq hr ⟨disjoint, lt⟩ => ?_
    simp only [Function.onFun, k q hq, k r hr]
    split
    · rw [if_neg (by omega)]
      exact fun b hb hr' => (fresh b hb).2 (held r hr b hr')
    · split
      · exact fun b hq' hb => (fresh b hb).2 (held q hq b hq')
      · exact disjoint
  · obtain ⟨r, hr, hi⟩ := List.mem_flatMap.mp hi
    rw [k r hr] at hi
    split at hi
    · exact (fresh i hi).1
    · exact h.2 i (held r hr i hi)

end Controller

open Controller in
theorem Move.buffersSound {c d : Controller} (m : Move .dispatches c d) (s : c.sequenceSound) (h : c.buffersSound) :
    d.buffersSound := by
  cases m with
  | takeOut seq ans => exact buffersSound_of_fewer (takeOut_records_sublist ..) h
  | finish ans => exact buffersSound_of_fewer (takeOut_records_sublist (c.setWork none) ..) h
  | deliver ans =>
    refine buffersSound_map (c := c) (deliver_records ..) (fun r _ => ?_) h
    split
    · exact List.take_sublist ..
    · exact .refl _
  | dispatch r es sweep extent verify idle there =>
    obtain ⟨o, ho, hseq, -, hbuffers⟩ := there rfl
    have own : ∀ q ∈ c.records, q.seq = r.seq → q.buffers = r.buffers := fun q hq e => by
      rw [s.eq_of_seq hq ho (e.trans hseq.symm), hbuffers]
    rcases dispatchBuffers_eq c r with e | ⟨n, e⟩
    · refine buffersSound_map (c := c) (dispatchRecords_eq_map ..) (fun q hq => ?_) h
      split
      · rename_i same
        rw [e, own q hq (beq_iff_eq.mp same)]
      · split <;> exact .refl _
    · refine buffersSound_replace (c := c) (dispatchRecords_eq_map ..) r.seq s (bs := c.freeBuffers.take n)
        ((freeBuffers_nodup c).sublist (List.take_sublist ..))
        (fun b hb => mem_freeBuffers.mp (List.mem_of_mem_take hb)) (fun q hq => ?_) h
      by_cases hq : q.seq = r.seq
      · simp [hq, e]
      · simp only [beq_iff_eq, hq, if_false]
        split <;> rfl
  | records f keeps => exact buffersSound_map (c := c) rfl (fun r hr => (keeps r hr).2.2.2) h
  | add r _ _ _ apart fresh => exact buffersSound_addRecord apart fresh h
  | addCommit r _ _ _ buffers =>
    exact buffersSound_addRecord (by rw [buffers]; exact .nil) (by simp [buffers]) h
  | work f records => exact buffersSound_of_fewer (c := c) (by rw [Controller.records, modWork_work, records]; exact .refl _) h
  | jump watched => exact nomatch watched
  | restart => exact ⟨.nil, fun i hi => nomatch hi⟩
  | powerOn => exact ⟨.nil, fun i hi => nomatch hi⟩
  | port | emptyDelivery | engine | claims | tables | media | drive | send | buffer | level3 => exact h

/-- Settles O57: a record takes free buffers only, at its acceptance or its dispatch, and lets buffers go otherwise. -/
theorem noBufferIsHeldTwice : Obligations.NoBufferIsHeldTwice := kept_of_ordered_moves Move.buffersSound

/-! Claim states. -/

theorem Controller.claimsSound_congr {c d : Controller} (claims : d.claims = c.claims)
    (extents : d.tables.active.extents = c.tables.active.extents) (h : c.claimsSound) : d.claimsSound := by
  intro n e he
  rw [extents] at he
  rw [Controller.claimAt, claims]
  exact h n e he

open Controller in
theorem Move.claimsSound {c d : Controller} (m : Move .claims c d) (h : c.claimsSound) : d.claimsSound := by
  cases m with
  | takeOut seq ans => exact claimsSound_congr (takeOut_claims ..) (by rw [takeOut_tables]) h
  | finish ans => exact claimsSound_congr (c := c) (takeOut_claims ..) (by rw [takeOut_tables]; rfl) h
  | claims v same => exact fun n e he => (same rfl n).trans (h n e he)
  | jump _ sound => exact sound
  | tables t _ _ extents => exact claimsSound_congr (c := c) rfl (extents rfl) h
  | powerOn =>
    intro n e he
    rw [fallbackExtents_not_claimable he]
    by_cases hn : n < 16 <;> simp [claimAt, Controller.powerOn, hn]
  | port | emptyDelivery | deliver | engine | dispatch | records | add | addCommit | work | media | drive | send
  | buffer | level3 | restart => exact h

/-- Settles O58: claim states come and go with the active extents only, at a fallback entry and at a commit. -/
theorem claimStatesFollowTheExtents : Obligations.ClaimStatesFollowTheExtents :=
  kept_of_moves .claims nofun rfl Move.claimsSound

/-! What a step from FALLBACK sends. -/

/-- The mode is FALLBACK and no more writes have been sent. -/
def Controller.NothingWritten (start c : Controller) : Prop :=
  c.inFallback = true ∧ (c.driveOut.filter (·.writes)).Sublist (start.driveOut.filter (·.writes))

open Controller in
theorem Controller.NothingWritten.congr {start c d : Controller} (tables : d.tables = c.tables)
    (sent : d.driveOut = c.driveOut) (h : start.NothingWritten c) : start.NothingWritten d := by
  rw [NothingWritten, inFallback, tables, sent]
  exact h

open Controller in
theorem Move.nothingWritten {start c d : Controller} (m : Move .mode c d) (h : start.NothingWritten c) :
    start.NothingWritten d := by
  cases m with
  | takeOut seq ans => exact h.congr (takeOut_tables ..) (takeOut_sameRest ..).sent
  | finish ans => exact h.congr (takeOut_tables ..) (takeOut_sameRest (c.setWork none) ..).sent
  | tables t _ mode => exact ⟨mode rfl h.1, h.2⟩
  | send d normal =>
    have quiet : d.writes = false := by
      by_contra writes
      exact absurd (h.1.symm.trans (normal (Bool.not_eq_false _ ▸ writes))) (by simp)
    refine ⟨h.1, ?_⟩
    rw [send_driveOut, List.filter_append]
    simpa [quiet] using h.2
  | jump watched => exact nomatch watched
  | powerOn => exact ⟨rfl, List.nil_sublist _⟩
  | port | emptyDelivery | deliver | engine | dispatch | records | add | addCommit | work | claims | media | drive
  | buffer | level3 | restart => exact h

namespace Controller

/-- The commit at the quiet point sends nothing to the drive. -/
theorem compareClaim_sameRest (c : Controller) (n : Nat) : c.SameRest (c.compareClaim n) := by
  unfold compareClaim
  split
  · split
    · exact .rfl
    · exact dropClaim_sameRest _ _ (fun _ _ _ => offer_sameRest ..) n
  · exact .rfl

theorem commitStore_sent (c : Controller) : c.commitStore.driveOut = c.driveOut :=
  (SameRest.foldl compareClaim_sameRest (List.range 16) c).sent

theorem commitTables_sent (c : Controller) : c.commitTables.driveOut = c.driveOut :=
  (offerBoth_sameRest ..).sent.trans (commitStore_sent c)

theorem quietPoint_sent (c : Controller) : c.quietPoint.driveOut = c.driveOut := by
  unfold quietPoint
  split
  · rfl
  · split
    · rfl
    · unfold commit
      split
      · exact (leave_sameRest ..).sent
      · exact (leave_sameRest ..).sent.trans (commitTables_sent c)

/-- The end of a step sends no command that writes. -/
theorem settle_sent (before after : Controller) :
    (before.settle after).driveOut = after.driveOut ∨ (before.settle after).driveOut = after.driveOut ++ [.faultClear] := by
  have clearing : after.startClearing.driveOut = after.driveOut ∨
      after.startClearing.driveOut = after.driveOut ++ [.faultClear] := (startClearing_same after).sent
  have readyWait : ∀ c : Controller, c.settleReadyWait.driveOut = c.driveOut := fun c => by
    unfold settleReadyWait
    split
    · rfl
    · split
      · rfl
      · exact (readTimer_sameRest ..).sent
  have idle : ∀ (c : Controller) (was : Bool), (c.settleIdle was).driveOut = c.driveOut := fun c was => by
    unfold settleIdle
    dsimp only
    split
    · rfl
    · split
      · split
        · rfl
        · exact (tableFault_sameRest c).sent
      · split
        · rfl
        · split <;> rfl
  have pumped : ∀ (c : Controller) (ch : Channel), (c.pumpPort ch).driveOut = c.driveOut := fun c ch => by
    unfold pumpPort
    dsimp only
    split <;> rfl
  rw [settle, pump, pumped, pumped, idle, readyWait]
  exact clearing

end Controller

open Controller in
/-- Settles O51: a write is sent only where the mode is NORMAL, and only the commit, which sends nothing, leaves
FALLBACK. -/
theorem nothingIsWrittenInFallback : Obligations.NothingIsWrittenInFallback := by
  intro s t fallback h
  rcases step_next h with e | ⟨i, rest, -, e⟩ <;> rw [e]
  have start : s.ctl.NothingWritten s.ctl := ⟨fallback, .refl _⟩
  by_cases hi : i = .commitQuietPoint
  · subst hi
    have sent : ((Instr.commitQuietPoint).effect s.ctl).driveOut = s.ctl.driveOut := quietPoint_sent s.ctl
    rcases settle_sent s.ctl ((Instr.commitQuietPoint).effect s.ctl) with e | e <;> rw [e, sent]
    simp [DriveCmd.writes]
  · have run : Run .mode s.ctl (s.ctl.settle (i.effect s.ctl)) :=
      (effect_run (w := .mode) i s.ctl (fun e => absurd e hi) nofun).trans (settle_shared ..).run
    exact (Moves.keeps Move.nothingWritten (run.moves nofun) start).2

end Sys2Proof.Machine
end


section
/-! The Engine, the Delivery Queues and the COMMIT-pending mark follow the states of the records (O59). -/

namespace Sys2Proof.Machine

namespace Controller

/-! The Engine. -/

/-- The record of the Engine, by its sequence number. -/
def workSeq (c : Controller) : Option Nat := c.engine.work.map (·.seq)

theorem engineSound_iff {c : Controller} :
    c.engineSound ↔ (∀ n, c.workSeq = some n → ∃ r ∈ c.records, r.seq = n) ∧
      ∀ r ∈ c.records, r.state = .active ↔ c.workSeq = some r.seq := by
  unfold engineSound workSeq
  cases c.engine.work with
  | none => simp
  | some k => simp [eq_comm]

/-- The Engine's record and the records, each with its number and its state, are all that counts. -/
theorem engineSound_map {c d : Controller} {f : Record → Record} (e : d.records = c.records.map f)
    (work : d.workSeq = c.workSeq)
    (k : ∀ r ∈ c.records, (f r).seq = r.seq ∧ ((f r).state = .active ↔ r.state = .active)) (h : c.engineSound) :
    d.engineSound := by
  rw [engineSound_iff] at h ⊢
  obtain ⟨there, active⟩ := h
  rw [e, work]
  refine ⟨fun n hn => ?_, fun q hq => ?_⟩
  · obtain ⟨r, hr, hs⟩ := there n hn
    exact ⟨f r, List.mem_map_of_mem hr, (k r hr).1.trans hs⟩
  · obtain ⟨r, hr, rfl⟩ := List.mem_map.mp hq
    rw [(k r hr).2, (k r hr).1]
    exact active r hr

theorem engineSound_congr {c d : Controller} (records : d.records = c.records) (work : d.workSeq = c.workSeq)
    (h : c.engineSound) : d.engineSound :=
  engineSound_map (f := id) (by rw [records, List.map_id]) work (fun _ _ => ⟨rfl, .rfl⟩) h

/-- Where no record is ACTIVE the Engine is idle. -/
theorem engineSound.idle {c : Controller} (h : c.engineSound) (idle : c.NoActive) : c.workSeq = none := by
  rw [engineSound_iff] at h
  cases hw : c.workSeq with
  | none => rfl
  | some n =>
    obtain ⟨r, hr, rfl⟩ := h.1 n hw
    exact absurd ((h.2 r hr).mpr hw) (idle r hr)

/-- The record that the Engine works on is ACTIVE. -/
theorem engineSound.active {c : Controller} (h : c.engineSound) {k : Work} (hk : c.engine.work = some k) {r : Record}
    (hr : r ∈ c.records) (e : r.seq = k.seq) : r.state = .active :=
  ((engineSound_iff.mp h).2 r hr).mpr (by rw [workSeq, hk, e]; rfl)

/-- A record other than the ACTIVE one leaves. -/
theorem engineSound_filter {c d : Controller} {seq : Nat} (e : d.records = c.records.filter (·.seq != seq))
    (work : d.workSeq = c.workSeq) (idle : ∀ r ∈ c.records, r.seq = seq → r.state ≠ .active) (h : c.engineSound) :
    d.engineSound := by
  rw [engineSound_iff] at h ⊢
  obtain ⟨there, active⟩ := h
  rw [e, work]
  refine ⟨fun n hn => ?_, fun r hr => active r (List.mem_of_mem_filter hr)⟩
  obtain ⟨r, hr, hs⟩ := there n hn
  refine ⟨r, List.mem_filter.mpr ⟨hr, bne_iff_ne.mpr fun e => ?_⟩, hs⟩
  exact idle r hr e ((active r hr).mpr (by rw [hn, hs]))

/-- The Engine idle, and no record ACTIVE. -/
theorem engineSound_of_idle {c : Controller} (work : c.workSeq = none) (idle : c.NoActive) : c.engineSound :=
  engineSound_iff.mpr ⟨fun _ hn => absurd (work.symm.trans hn) nofun,
    fun r hr => ⟨fun a => absurd a (idle r hr), fun w => absurd (work.symm.trans w) nofun⟩⟩

/-- A record that is not ACTIVE enters. -/
theorem engineSound_addRecord {c : Controller} (s : c.sequenceSound) {r : Record} (seq : r.seq = c.work.nextSeq)
    (state : r.state ≠ .active) (h : c.engineSound) : (c.addRecord r).engineSound := by
  rw [engineSound_iff] at h ⊢
  obtain ⟨there, active⟩ := h
  refine ⟨fun n hn => ?_, fun q hq => ?_⟩
  · obtain ⟨q, hq, hs⟩ := there n hn
    exact ⟨q, List.mem_append_left _ hq, hs⟩
  · rcases List.mem_append.mp hq with hq | hq
    · exact active q hq
    · rw [List.mem_singleton.mp hq]
      refine ⟨fun a => absurd a state, fun w => ?_⟩
      obtain ⟨q, hq, hs⟩ := there _ w
      have := s.2 q hq
      omega

end Controller

open Controller in
theorem Move.engineSound {c d : Controller} (m : Move .holders c d) (s : c.sequenceSound) (h : c.engineSound) :
    d.engineSound := by
  cases m with
  | takeOut seq ans idle =>
    exact engineSound_filter (takeOut_records ..) (by rw [workSeq, takeOut_engine]; rfl) (idle rfl) h
  | @finish k ans work =>
    refine engineSound_of_idle (by rw [workSeq, takeOut_engine]; rfl) fun r hr active => ?_
    rw [takeOut_records] at hr
    obtain ⟨hr, ne⟩ := List.mem_filter.mp hr
    have at_work := ((engineSound_iff.mp h).2 r hr).mp active
    simp only [workSeq, work, Option.map_some, Option.some.injEq] at at_work
    exact bne_iff_ne.mp ne at_work.symm
  | @deliver k r ans work found =>
    refine engineSound_of_idle rfl fun q hq active => ?_
    rw [deliver_records] at hq
    obtain ⟨o, ho, rfl⟩ := List.mem_map.mp hq
    split at active
    · exact nomatch active
    · rename_i ne
      have at_work := ((engineSound_iff.mp h).2 o ho).mp active
      simp only [workSeq, work, Option.map_some, Option.some.injEq] at at_work
      exact ne (beq_iff_eq.mpr (at_work.symm.trans (seq_of_findRecord found).symm))
  | engine e same => exact engineSound_congr (c := c) rfl same h
  | dispatch r es sweep extent verify idle there =>
    obtain ⟨o, ho, hseq, -, -⟩ := there rfl
    have records : ∀ q, q ∈ c.dispatchRecords r es extent → (q.state = .active ↔ q.seq = r.seq) := fun q hq => by
      rw [dispatchRecords_eq_map] at hq
      obtain ⟨p, hp, rfl⟩ := List.mem_map.mp hq
      have waits : p.state ≠ .active := idle rfl p hp
      by_cases e : p.seq = r.seq
      · simp [e]
      · simp only [beq_iff_eq, e, if_false]
        split <;> simpa [e, Record.passOver] using waits
    refine engineSound_iff.mpr ⟨fun n hn => ?_, fun q hq => ?_⟩
    · refine ⟨{ o with state := .active, extent := extent, buffers := c.dispatchBuffers r }, ?_, ?_⟩
      · change _ ∈ c.dispatchRecords r es extent
        rw [dispatchRecords_eq_map]
        exact List.mem_map.mpr ⟨o, ho, if_pos (beq_iff_eq.mpr hseq)⟩
      · exact hseq.trans (Option.some.inj hn)
    · rw [records q hq]
      exact ⟨fun e => congrArg some e.symm, fun e => (Option.some.inj e).symm⟩
  | records f keeps =>
    exact engineSound_map (c := c) rfl rfl (fun r hr => ⟨(keeps r hr).1, by rw [(keeps r hr).2.1]⟩) h
  | add r _ seq state => exact engineSound_addRecord s seq state.1 h
  | addCommit r _ seq state => exact engineSound_addRecord s seq (by rw [state]; decide) h
  | work f records => exact engineSound_congr (c := c) records rfl h
  | jump watched => exact nomatch watched
  | restart idle => exact engineSound_of_idle (h.idle (idle rfl)) fun r hr => nomatch hr
  | powerOn => exact engineSound_of_idle rfl fun r hr => nomatch hr
  | port | emptyDelivery | claims | tables | media | drive | send | buffer | level3 => exact h

namespace Controller

/-! The Delivery Queues. -/

/-- A number is the number of a DELIVERING record of a channel. -/
def Delivers (c : Controller) (ch : Channel) (n : Nat) : Prop :=
  ∃ r ∈ c.records, r.seq = n ∧ r.state = .delivering ∧ r.channel = ch

theorem deliverySound_iff {c : Controller} :
    c.deliverySound ↔ ∀ ch n, n ∈ (c.port ch).delivery ↔ c.Delivers ch n := .rfl

theorem deliverySound_congr {c d : Controller} (queues : ∀ ch, (d.port ch).delivery = (c.port ch).delivery)
    (k : ∀ ch n, d.Delivers ch n ↔ c.Delivers ch n) (h : c.deliverySound) : d.deliverySound := fun ch n => by
  rw [queues ch]
  exact (h ch n).trans (k ch n).symm

/-- Records changed one by one, each DELIVERING where it was, are delivered as they were. -/
theorem delivers_map {c d : Controller} {f : Record → Record} (e : d.records = c.records.map f)
    (k : ∀ r ∈ c.records,
      (f r).seq = r.seq ∧ (f r).channel = r.channel ∧ ((f r).state = .delivering ↔ r.state = .delivering))
    (ch : Channel) (n : Nat) : d.Delivers ch n ↔ c.Delivers ch n := by
  unfold Delivers
  rw [e]
  constructor
  · rintro ⟨q, hq, hs, hd, hc⟩
    obtain ⟨r, hr, rfl⟩ := List.mem_map.mp hq
    obtain ⟨seq, channel, state⟩ := k r hr
    exact ⟨r, hr, seq ▸ hs, state.mp hd, channel ▸ hc⟩
  · rintro ⟨r, hr, hs, hd, hc⟩
    obtain ⟨seq, channel, state⟩ := k r hr
    exact ⟨f r, List.mem_map_of_mem hr, seq.trans hs, state.mpr hd, channel.trans hc⟩

/-- A record that is not DELIVERING enters. -/
theorem delivers_addRecord {c : Controller} {r : Record} (state : r.state ≠ .delivering) (ch : Channel) (n : Nat) :
    (c.addRecord r).Delivers ch n ↔ c.Delivers ch n := by
  unfold Delivers
  rw [addRecord_records]
  constructor
  · rintro ⟨q, hq, hs, hd, hc⟩
    rcases List.mem_append.mp hq with hq | hq
    · exact ⟨q, hq, hs, hd, hc⟩
    · exact absurd (List.mem_singleton.mp hq ▸ hd) state
  · rintro ⟨q, hq, rest⟩
    exact ⟨q, List.mem_append_left _ hq, rest⟩

/-- What is delivered once a record has been taken out. -/
theorem delivers_takeOut (c : Controller) (seq : Nat) (ans : Option Answer) (ch : Channel) (n : Nat) :
    (c.takeOut seq ans).Delivers ch n ↔ c.Delivers ch n ∧ n ≠ seq := by
  unfold Delivers
  rw [takeOut_records]
  constructor
  · rintro ⟨r, hr, rfl, rest⟩
    obtain ⟨hr, ne⟩ := List.mem_filter.mp hr
    exact ⟨⟨r, hr, rfl, rest⟩, bne_iff_ne.mp ne⟩
  · rintro ⟨⟨r, hr, rfl, rest⟩, ne⟩
    exact ⟨r, List.mem_filter.mpr ⟨hr, bne_iff_ne.mpr ne⟩, rfl, rest⟩

theorem deliverySound_takeOut {c : Controller} (s : c.sequenceSound) (h : c.deliverySound) (seq : Nat)
    (ans : Option Answer) : (c.takeOut seq ans).deliverySound := fun ch n => by
  refine Iff.trans ?_ (delivers_takeOut ..).symm
  cases hf : c.findRecord seq with
  | none =>
    rw [takeOut_of_none hf]
    refine (h ch n).trans ⟨fun d => ⟨d, fun e => ?_⟩, And.left⟩
    obtain ⟨r, hr, hs, -⟩ := d
    exact findRecord_eq_none hf r hr (hs.trans e)
  | some r =>
    by_cases e : ch = r.channel
    · subst e
      rw [takeOut_port_self hf, Port.leaveWith_delivery, List.mem_filter, bne_iff_ne]
      exact and_congr_left fun _ => h r.channel n
    · rw [takeOut_port_of_ne hf ans e]
      refine (h ch n).trans ⟨fun d => ⟨d, fun k => ?_⟩, And.left⟩
      obtain ⟨q, hq, hs, -, hc⟩ := d
      have same := s.eq_of_seq hq (mem_of_findRecord hf) ((hs.trans k).trans (seq_of_findRecord hf).symm)
      exact e (hc.symm.trans (congrArg Record.channel same))

/-- The record that becomes DELIVERING joins the tail of its channel's queue. -/
theorem deliverySound_deliver {c : Controller} (s : c.sequenceSound) (h : c.deliverySound) {r : Record}
    (hr : r ∈ c.records) (ans : Answer) : (c.deliver r ans).deliverySound := fun ch n => by
  have queue : n ∈ ((c.deliver r ans).port ch).delivery ↔
      n ∈ (c.port ch).delivery ∨ (ch = r.channel ∧ n = r.seq) := by
    by_cases e : ch = r.channel
    · subst e
      have : ((c.deliver r ans).port r.channel).delivery = (c.port r.channel).delivery ++ [r.seq] := by
        rw [deliver, port, modPort_ports, PerChannel.get_set_self]
        rfl
      simp [this]
    · have : (c.deliver r ans).port ch = c.port ch := by
        rw [deliver, port, modPort_ports, PerChannel.get_set_of_ne _ _ e]
        rfl
      simp [this, e]
  have delivered : (c.deliver r ans).Delivers ch n ↔ c.Delivers ch n ∨ (ch = r.channel ∧ n = r.seq) := by
    unfold Delivers
    rw [deliver_records]
    constructor
    · rintro ⟨q, hq, hs, hd, hc⟩
      obtain ⟨o, ho, rfl⟩ := List.mem_map.mp hq
      by_cases e : o.seq = r.seq
      · rw [if_pos (beq_iff_eq.mpr e)] at hs hc
        exact .inr ⟨by rw [← hc, s.eq_of_seq ho hr e], hs.symm.trans e⟩
      · rw [if_neg (by simpa using e)] at hs hd hc
        exact .inl ⟨o, ho, hs, hd, hc⟩
    · have made : ∀ o ∈ c.records, o.seq = r.seq → ∃ q ∈ c.records.map (fun q =>
          if q.seq == r.seq then
            { q with
              state := .delivering
              buffers := q.buffers.take q.done
              firstError := ans.kind.map fun k => { lsa := ans.lsa, kind := k }
              prepared := some ans
              sent := 0 }
          else q), q.seq = o.seq ∧ q.state = .delivering ∧ q.channel = o.channel := fun o ho e =>
        ⟨_, List.mem_map_of_mem ho, by simp [e]⟩
      rintro (⟨o, ho, hs, hd, hc⟩ | ⟨rfl, rfl⟩)
      · by_cases e : o.seq = r.seq
        · obtain ⟨q, hq, h1, h2, h3⟩ := made o ho e
          exact ⟨q, hq, h1.trans hs, h2, h3.trans hc⟩
        · exact ⟨o, List.mem_map.mpr ⟨o, ho, if_neg (by simpa using e)⟩, hs, hd, hc⟩
      · exact made r hr rfl
  rw [queue]
  exact Iff.trans (or_congr_left (h ch n)) delivered.symm

end Controller

open Controller in
theorem Move.deliverySound {c d : Controller} (m : Move .holders c d) (s : c.sequenceSound) (h : c.deliverySound) :
    d.deliverySound := by
  cases m with
  | port ch p _ delivery =>
    refine deliverySound_congr (c := c) (fun e => ?_) (fun _ _ => .rfl) h
    by_cases e' : e = ch
    · subst e'
      rw [Controller.port, setPort_ports, PerChannel.get_set_self, delivery]
    · rw [Controller.port, setPort_ports, PerChannel.get_set_of_ne _ _ e']
      rfl
  | emptyDelivery ch p _ delivery gone =>
    intro e n
    by_cases e' : e = ch
    · subst e'
      rw [Controller.port, setPort_ports, PerChannel.get_set_self, delivery]
      refine iff_of_false (by simp) ?_
      rintro ⟨r, hr, -, hd, hc⟩
      exact gone rfl r hr hd hc
    · rw [Controller.port, setPort_ports, PerChannel.get_set_of_ne _ _ e']
      exact h e n
  | takeOut seq ans => exact deliverySound_takeOut s h seq ans
  | @finish k ans => exact deliverySound_takeOut (c := c.setWork none) s h k.seq ans
  | @deliver k r ans _ found => exact deliverySound_deliver (c := c.setWork none) s h (mem_of_findRecord found) ans
  | dispatch r es sweep extent verify _ there =>
    obtain ⟨o, ho, hseq, waits, -⟩ := there rfl
    refine deliverySound_congr (c := c) (fun _ => rfl) (delivers_map (dispatchRecords_eq_map ..) fun q hq => ?_) h
    by_cases e : q.seq = r.seq
    · have same := s.eq_of_seq hq ho (e.trans hseq.symm)
      have : q.state ≠ .delivering := by rw [same]; rcases waits with w | w <;> rw [w] <;> decide
      simp [e, this]
    · simp only [beq_iff_eq, e, if_false]
      split <;> exact ⟨rfl, rfl, .rfl⟩
  | records f keeps =>
    exact deliverySound_congr (c := c) (fun _ => rfl) (delivers_map rfl fun r hr =>
      ⟨(keeps r hr).1, (keeps r hr).2.2.1, by rw [(keeps r hr).2.1]⟩) h
  | add r _ _ state => exact deliverySound_congr (c := c) (fun _ => rfl) (delivers_addRecord state.2.1) h
  | addCommit r _ _ state =>
    exact deliverySound_congr (c := c) (fun _ => rfl) (delivers_addRecord (by rw [state]; decide)) h
  | work f records =>
    exact deliverySound_congr (c := c) (fun _ => rfl)
      (delivers_map (f := id) (by rw [List.map_id]; exact records) fun _ _ => ⟨rfl, rfl, .rfl⟩) h
  | jump watched => exact nomatch watched
  | restart =>
    intro ch n
    refine iff_of_false ?_ fun ⟨r, hr, _⟩ => nomatch hr
    cases ch <;> simp [Controller.port, PerChannel.get, PerChannel.set]
  | powerOn =>
    intro ch n
    refine iff_of_false ?_ fun ⟨r, hr, _⟩ => nomatch hr
    cases ch <;> exact fun h => nomatch h
  | engine | claims | tables | media | drive | send | buffer | level3 => exact h

namespace Controller

/-! The COMMIT-pending mark. -/

theorem commitSound_iff {c : Controller} : c.commitSound ↔
    c.work.commitPending = c.anyIn .commitWait ∧ c.records.countP (·.state == .commitWait) ≤ 1 := by
  rw [commitSound, List.countP_eq_length_filter]

theorem anyIn_eq_true {c : Controller} {st : RecState} : c.anyIn st = true ↔ ∃ r ∈ c.records, r.state = st := by
  simp [anyIn]

theorem anyIn_map {c d : Controller} {f : Record → Record} (e : d.records = c.records.map f) {st : RecState}
    (k : ∀ r ∈ c.records, (f r).state = st ↔ r.state = st) : d.anyIn st = c.anyIn st := by
  rw [Bool.eq_iff_iff, anyIn_eq_true, anyIn_eq_true, e]
  constructor
  · rintro ⟨q, hq, hs⟩
    obtain ⟨r, hr, rfl⟩ := List.mem_map.mp hq
    exact ⟨r, hr, (k r hr).mp hs⟩
  · rintro ⟨r, hr, hs⟩
    exact ⟨f r, List.mem_map_of_mem hr, (k r hr).mpr hs⟩

/-- Records changed one by one, each in COMMIT-WAIT where it was. -/
theorem commitSound_map {c d : Controller} {f : Record → Record} (e : d.records = c.records.map f)
    (pending : d.work.commitPending = c.work.commitPending)
    (k : ∀ r ∈ c.records, (f r).state = .commitWait ↔ r.state = .commitWait) (h : c.commitSound) : d.commitSound := by
  rw [commitSound_iff] at h ⊢
  refine ⟨by rw [pending, h.1, anyIn_map e k], ?_⟩
  rw [e, List.countP_map]
  refine (List.countP_mono_left fun r hr hw => ?_).trans h.2
  simpa using (k r hr).mp (by simpa using hw)

theorem commitSound_congr {c d : Controller} (records : d.records = c.records)
    (pending : d.work.commitPending = c.work.commitPending) (h : c.commitSound) : d.commitSound :=
  commitSound_map (f := id) (by rw [records, List.map_id]) pending (fun _ _ => .rfl) h

/-- Where a COMMIT-WAIT record leaves, no other is left. -/
theorem commitWait_gone {c : Controller} (single : c.records.countP (·.state == .commitWait) ≤ 1) {r : Record}
    (hr : r ∈ c.records) (waits : r.state = .commitWait) :
    ∀ q ∈ c.records, q.seq ≠ r.seq → q.state ≠ .commitWait := by
  intro q hq ne hs
  have parts := List.countP_eq_countP_filter_add c.records (·.state == .commitWait) (·.seq != r.seq)
  have other : 0 < (c.records.filter (·.seq != r.seq)).countP (·.state == .commitWait) :=
    List.countP_pos_iff.mpr ⟨q, List.mem_filter.mpr ⟨hq, bne_iff_ne.mpr ne⟩, beq_iff_eq.mpr hs⟩
  have own : 0 < (c.records.filter fun a => !(a.seq != r.seq)).countP (·.state == .commitWait) :=
    List.countP_pos_iff.mpr ⟨r, List.mem_filter.mpr ⟨hr, by simp⟩, beq_iff_eq.mpr waits⟩
  omega

/-- The one COMMIT-WAIT record takes the mark with it, and any other leaves the mark. -/
theorem commitSound_takeOut {c : Controller} (s : c.sequenceSound) (h : c.commitSound) (seq : Nat)
    (ans : Option Answer) : (c.takeOut seq ans).commitSound := by
  cases hf : c.findRecord seq with
  | none => rwa [takeOut_of_none hf]
  | some r =>
    have hr := mem_of_findRecord hf
    have hs := seq_of_findRecord hf
    rw [commitSound_iff] at h ⊢
    obtain ⟨pending, single⟩ := h
    refine ⟨?_, ((takeOut_records_sublist c seq ans).countP_le ..).trans single⟩
    rw [takeOut_commitPending hf, pending, Bool.eq_iff_iff, Bool.and_eq_true, anyIn_eq_true, anyIn_eq_true,
      takeOut_records, bne_iff_ne]
    constructor
    · rintro ⟨⟨q, hq, hw⟩, ne⟩
      refine ⟨q, List.mem_filter.mpr ⟨hq, bne_iff_ne.mpr fun e => ne ?_⟩, hw⟩
      rw [← s.eq_of_seq hq hr (e.trans hs.symm), hw]
    · rintro ⟨q, hq, hw⟩
      obtain ⟨hq, other⟩ := List.mem_filter.mp hq
      exact ⟨⟨q, hq, hw⟩, fun waits => commitWait_gone single hr waits q hq (hs ▸ bne_iff_ne.mp other) hw⟩

/-- A record that is not in COMMIT-WAIT enters. -/
theorem commitSound_addRecord {c : Controller} {r : Record} (state : r.state ≠ .commitWait) (h : c.commitSound) :
    (c.addRecord r).commitSound := by
  rw [commitSound_iff] at h ⊢
  refine ⟨?_, ?_⟩
  · change c.work.commitPending = _
    rw [h.1, anyIn, anyIn, addRecord_records, List.any_append]
    simp [state]
  · rw [addRecord_records, List.countP_append]
    simpa [List.countP_cons, state] using h.2

/-- A COMMIT-WAIT record enters where there is none, and the mark is set. -/
theorem commitSound_addCommit {c : Controller} {r : Record} (state : r.state = .commitWait)
    (single : c.anyIn .commitWait = false) :
    ((c.addRecord r).modWork fun l => { l with commitPending := true }).commitSound := by
  have none_there : c.records.countP (·.state == .commitWait) = 0 :=
    List.countP_eq_zero.mpr (List.any_eq_false.mp single)
  have records : ((c.addRecord r).modWork fun l => { l with commitPending := true }).records = c.records ++ [r] := rfl
  rw [commitSound_iff, records]
  refine ⟨(anyIn_eq_true.mpr ⟨r, ?_, state⟩).symm, ?_⟩
  · rw [records]
    exact List.mem_append_right _ (List.mem_singleton_self r)
  · rw [List.countP_append, none_there]
    simp [state]

end Controller

open Controller in
theorem Move.commitSound {c d : Controller} (m : Move .holders c d) (s : c.sequenceSound) (e : c.engineSound)
    (h : c.commitSound) : d.commitSound := by
  cases m with
  | takeOut seq ans => exact commitSound_takeOut s h seq ans
  | @finish k ans => exact commitSound_takeOut (c := c.setWork none) s h k.seq ans
  | @deliver k r ans work found =>
    refine commitSound_map (c := c) (deliver_records ..) rfl (fun q hq => ?_) h
    split
    · rename_i same
      have active := e.active work hq ((beq_iff_eq.mp same).trans (seq_of_findRecord found))
      simp [active]
    · exact .rfl
  | dispatch r es sweep extent verify _ there =>
    obtain ⟨o, ho, hseq, waits, -⟩ := there rfl
    refine commitSound_map (c := c) (dispatchRecords_eq_map ..) rfl (fun q hq => ?_) h
    by_cases e : q.seq = r.seq
    · have same := s.eq_of_seq hq ho (e.trans hseq.symm)
      have : q.state ≠ .commitWait := by rw [same]; rcases waits with w | w <;> rw [w] <;> decide
      simp [e, this]
    · simp only [beq_iff_eq, e, if_false]
      split <;> exact .rfl
  | records f keeps => exact commitSound_map (c := c) rfl rfl (fun r hr => by rw [(keeps r hr).2.1]) h
  | add r _ _ state => exact commitSound_addRecord state.2.2 h
  | addCommit r _ _ state _ single => exact commitSound_addCommit state single
  | work f records _ pending => exact commitSound_congr (c := c) records pending h
  | jump watched => exact nomatch watched
  | restart => exact ⟨rfl, Nat.zero_le _⟩
  | powerOn => exact ⟨rfl, Nat.zero_le _⟩
  | port | emptyDelivery | engine | claims | tables | media | drive | send | buffer | level3 => exact h

/-- Settles O59: each move that changes a record's state changes the holder of the state with it. -/
theorem recordStatesFollowTheirHolders : Obligations.RecordStatesFollowTheirHolders := by
  intro s t hs h
  have ⟨ordered, _, delivery, _⟩ := hs
  exact Moves.keeps (w := .holders)
    (p := fun c => c.sequenceSound ∧ c.engineSound ∧ c.deliverySound ∧ c.commitSound)
    (fun m ⟨ordered, engine, delivery, commit⟩ =>
      ⟨m.sequenceSound rfl ordered, m.engineSound ordered engine, m.deliverySound ordered delivery,
        m.commitSound ordered engine commit⟩)
    ((step_run (w := .holders) nofun h fun _ => delivery).moves fun _ => ordered) hs

end Sys2Proof.Machine
end


section
/-! The queue, power-on, the reset state, notices and refusals (O1 to O3, O6, O7). -/

namespace Sys2Proof.Machine

/-- Settles O1: a step matches on the queue. -/
theorem queueRunsFrontCommand : Obligations.QueueRunsFrontCommand :=
  ⟨fun _ _ => rfl, fun s h => by rw [step, h]⟩

/-! Power-on. -/

namespace Controller

theorem powerOn_timersReadable (cartridge supply writeFault : Bool) :
    (Controller.powerOn cartridge supply writeFault).timersReadable = true := rfl

theorem powerOn_gives (cartridge supply writeFault : Bool) (s : State) :
    Gives (.powerOn cartridge supply writeFault) s (.powerOn cartridge supply writeFault) :=
  gives_of_effect rfl (powerOn_timersReadable ..)

theorem powerOn_claimAt (cartridge supply writeFault : Bool) (e : Nat) :
    (Controller.powerOn cartridge supply writeFault).claimAt e = none := by
  by_cases h : e < 16 <;> simp [claimAt, Controller.powerOn, h]

/-- The fallback Channel Record enables every notice (R154). -/
theorem fallbackChannel_enables (n : Notice) : fallbackChannel.enables n.kind = true := by
  have all : ∀ k : Fin 10, fallbackChannel.enables (k.val + 1) = true := by decide
  have kind : 1 ≤ n.kind ∧ n.kind ≤ 10 := by cases n <;> simp [Notice.kind]
  have := all ⟨n.kind - 1, by omega⟩
  rwa [Nat.sub_add_cancel kind.1] at this

/-- The fields of the fallback Channel Record (R154). -/
theorem fallbackChannel_fields : fallbackChannel.management = true ∧ fallbackChannel.slotQuota = 8 ∧
    fallbackChannel.bufferQuota = 6 ∧ fallbackChannel.maxSectors = 8 ∧ fallbackChannel.ceiling = .urgent ∧
    fallbackChannel.writeBehindPermitted = false := by decide

/-- The fields of entry 0 of the fallback Extent Table (R154). -/
theorem fallbackExtent0_fields : fallbackExtent0.valid = true ∧ fallbackExtent0.firstLsa = 0 ∧
    fallbackExtent0.lastLsa = 19199 ∧ fallbackExtent0.exclusive = false ∧ fallbackExtent0.writeBehind = false ∧
    fallbackExtent0.verifyAfterWrite = false ∧ fallbackExtent0.yieldLimit = 0 := by decide

theorem fallbackExtent0_rights (ch : Channel) : fallbackExtent0.hasRight ch .read = true ∧
    fallbackExtent0.hasRight ch .write = false ∧ fallbackExtent0.hasRight ch .format = false := by
  cases ch <;> decide

/-- The fields of the Drive and Monitor Records as they stand at power-on (R154). -/
theorem defaultDrive_fields : defaultDrive.spinUp = 600 ∧ defaultDrive.headLoad = 15 ∧ defaultDrive.coolDown = 200 ∧
    defaultDrive.readyWait = 100 ∧ defaultDrive.idleUnload = 0 ∧ defaultDrive.retryLimit = 8 ∧
    defaultDrive.bypassLimit = 6 := by decide

theorem defaultMonitor_fields : defaultMonitor.threshold = 4 ∧ defaultMonitor.tripWindows = 3 := by decide

theorem fallbackExtents_invalid_fin : ∀ i : Fin 16, 0 < i.val → (fallbackExtents[i]).valid = false := by decide

/-- The entries of the fallback Extent Table but the first are invalid (R154). -/
theorem fallbackExtents_invalid {n : Nat} {e : ExtentEntry} (pos : 0 < n) (he : fallbackExtents[n]? = some e) :
    e.valid = false := by
  obtain ⟨hn, rfl⟩ := Vector.getElem?_eq_some_iff.mp he
  exact fallbackExtents_invalid_fin ⟨n, hn⟩ pos

end Controller

open Controller in
/-- Settles O2: the fields of the fallback forms, and the power-on values as they stand. -/
theorem powerOnGivesPowerOnValues : Obligations.PowerOnGivesPowerOnValues := by
  intro cartridge supply writeFault s
  have ⟨management, slots, buffers, sectors, ceiling, behind⟩ := fallbackChannel_fields
  have ⟨valid, first, last, exclusive, extentBehind, verify, limit⟩ := fallbackExtent0_fields
  have ⟨spinUp, headLoad, coolDown, readyWait, idle, retry, bypass⟩ := defaultDrive_fields
  refine ⟨.powerOn cartridge supply writeFault, powerOn_gives .., ?ports, rfl, rfl, rfl, rfl, ?deferred, rfl,
    powerOn_claimAt _ _ _, rfl, rfl, rfl, ?channels, ?extent0, fun _ _ => fallbackExtents_invalid,
    fun _ => emptyRemap_unused, spinUp, headLoad, coolDown, readyWait, idle, retry, bypass, defaultMonitor_fields.1,
    defaultMonitor_fields.2, rfl, rfl, rfl, rfl, rfl, rfl, rfl, rfl, rfl, rfl, rfl, rfl, rfl, rfl, rfl, rfl, rfl, rfl,
    rfl, rfl, rfl, rfl, rfl⟩
  case ports => intro ch; cases ch <;> exact ⟨rfl, rfl, rfl, rfl, rfl, rfl, rfl⟩
  case deferred => intro ch; cases ch <;> rfl
  case channels =>
    intro ch
    cases ch <;> exact ⟨management, slots, buffers, sectors, ceiling, behind, fallbackChannel_enables⟩
  case extent0 =>
    exact ⟨fallbackExtent0, rfl, valid, first, last, exclusive, extentBehind, verify, limit, fallbackExtent0_rights⟩

open Controller in
/-- Settles O3: every kept condition holds of empty lists, no claims and an idle Engine. -/
theorem resetStateIsPowerOn : Obligations.ResetStateIsPowerOn := by
  refine ⟨rfl, powerOn_gives true true false, ⟨Port.powerOn_noticesSound, Port.powerOn_noticesSound⟩,
    ⟨Nat.zero_le _, .nil⟩, rfl, fun _ => ⟨rfl, fun e he => emptyRemap_unused he⟩, Nat.zero_le _,
    ⟨.nil, fun r hr => nomatch hr⟩, Nat.zero_le _, ⟨.nil, fun i hi => nomatch hi⟩, ?_,
    ?_, ?_, ⟨rfl, Nat.zero_le _⟩⟩
  · intro n e he
    rw [fallbackExtents_not_claimable he]
    exact congrArg Option.isSome (powerOn_claimAt true true false n)
  · exact engineSound_of_idle (c := State.reset.ctl) rfl fun r hr => nomatch hr
  · intro ch n
    refine iff_of_false ?_ fun ⟨r, hr, _⟩ => nomatch hr
    cases ch <;> exact fun h => nomatch h

/-! Notices. -/

theorem Port.takeNotice_disabled (p : Port) (n : Notice) : p.takeNotice false n = p := rfl

theorem Port.takeNotice_queued {p : Port} {n : Notice} (h : n ∈ p.notices) : p.takeNotice true n = p := by
  simp [Port.takeNotice, h]

theorem Port.takeNotice_full {p : Port} {n : Notice} (h : n ∉ p.notices) (full : 8 ≤ p.notices.length) :
    p.takeNotice true n = { p with overflow := true } := by
  simp [Port.takeNotice, h, Config.noticeCapacity, full]

theorem Port.takeNotice_added {p : Port} {n : Notice} (h : n ∉ p.notices) (room : p.notices.length < 8) :
    p.takeNotice true n = { p with notices := p.notices ++ [n] } := by
  simp [Port.takeNotice, h, Config.noticeCapacity, Nat.not_le.mpr room]

namespace Controller

theorem testWord_good (c : Controller) {t : TWord} (h : t.good = true) : c.testWord t = c := by simp [testWord, h]

theorem testWord_bad (c : Controller) {t : TWord} (h : t.good = false) : c.testWord t = c.tableFault := by
  simp [testWord, h]

/-- The Channel Records of a block that has entered FALLBACK are the fallback ones (R153). -/
theorem fallbackEntry_channelRecord (c : Controller) (reason : FallbackReason) (ch : Channel) :
    (c.fallbackEntry reason).channelRecord ch = fallbackChannel := by
  rw [channelRecord, fallbackEntry_tables]
  cases ch <;> rfl

theorem tableFault_channelRecord (c : Controller) (ch : Channel) : c.tableFault.channelRecord ch = fallbackChannel :=
  fallbackEntry_channelRecord ..

/-- A readable enable set judges the notice. -/
theorem offer_readable {c : Controller} {ch : Channel} (h : c.noticesReadable ch = true) (n : Notice) :
    c.offer ch n = c.modPort ch (·.takeNotice ((c.channelRecord ch).enables n.kind) n) := by
  rw [offer, testWord_good c h, offerUntested]

/-- An unreadable one enters FALLBACK, whose enable set holds every kind. -/
theorem offer_unreadable {c : Controller} {ch : Channel} (h : c.noticesReadable ch = false) (n : Notice) :
    c.offer ch n = c.tableFault.modPort ch (·.takeNotice true n) := by
  rw [offer, testWord_bad c h, offerUntested, tableFault_channelRecord, fallbackChannel_enables]

end Controller

/-- Settles O6: the cases of the port's decision, and of the enable set's parity. -/
theorem noticeIsJudgedInOrder : Obligations.NoticeIsJudgedInOrder :=
  ⟨fun p n => ⟨p.takeNotice_disabled n, Port.takeNotice_queued, Port.takeNotice_full, Port.takeNotice_added⟩,
    fun _ _ n => ⟨fun h => Controller.offer_readable h n, fun h => Controller.offer_unreadable h n⟩⟩

/-! Refusals. -/

/-- A command that brings an order brings it to the checks. -/
theorem effect_of_order {i : Instr} {o : Order} (h : i.order? = some o) (c : Controller) :
    ∃ accept : Controller → Controller, i.effect c = c.order o accept := by
  cases i with
  | undefinedFunction | null | read | write | verify | formatTrack | seek | sync | claim | yield | keep | release
  | status | readSuspect | readTable | loadTable | copyActive | commit | setDriveTarget | clearDeferred | clearSuspect
  | clearMonitor => exact ⟨_, by rw [← Option.some.inj h]; rfl⟩
  | _ => exact nomatch h

namespace Controller

/-- An order refused by a check of its own code. -/
theorem refused_gives {i : Instr} {o : Order} {s : State} {code : AnswerCode} (h : i.order? = some o)
    (up : s.ctl.linkUp o.channel = true) (timers : s.ctl.timersReadable = true)
    (refused : s.ctl.runChecks o = some (.refuse code)) :
    Gives i s ((s.ctl.frameTaken o.channel).placeAnswer o.channel (.plain o.frame.tag o.code code)) := by
  obtain ⟨accept, e⟩ := effect_of_order h s.ctl
  refine gives_of_effect (e.trans (order_refused accept up refused)) ?_
  rw [((frameTaken_sameRest ..).trans (placeAnswer_sameRest ..)).timersReadable]
  exact timers

/-- Check 1 refuses with REFUSED-RESETTING alone. -/
theorem check1_eq_some_iff {c : Controller} {o : Order} : c.check1 o = some (.refuse .refusedResetting) ↔
    c.level3 ≠ none ∨ (c.port o.channel).link = .recovering ∧ o.fn.any (·.waitsOutRecovery) = true := by
  simp only [check1, refuseIf]
  split
  · rename_i h
    simpa [Option.isSome_iff_ne_none] using h
  · rename_i h
    simpa [Option.isSome_iff_ne_none] using h

/-! Which check refuses with which code. -/

theorem refuseIf_eq_some_iff {b : Bool} {code : AnswerCode} {stop : CheckStop} :
    refuseIf b code = some stop ↔ b = true ∧ stop = .refuse code := by
  cases b <;> simp [refuseIf, eq_comm]

theorem needGood_refuse_iff {t : TWord} {k : Option CheckStop} {code : AnswerCode} :
    needGood t k = some (.refuse code) ↔ t.good = true ∧ k = some (.refuse code) := by
  cases h : t.good <;> simp [needGood, h]

theorem refuseIf_ne {b : Bool} {code code' : AnswerCode} (h : code ≠ code') :
    refuseIf b code ≠ some (.refuse code') := fun e =>
  h (CheckStop.refuse.inj (refuseIf_eq_some_iff.mp e).2).symm

theorem needGood_ne {t : TWord} {k : Option CheckStop} {code : AnswerCode} (h : k ≠ some (.refuse code)) :
    needGood t k ≠ some (.refuse code) := fun e => h (needGood_refuse_iff.mp e).2

theorem claimStop_ne (ch : Channel) (cl : Option Claim) : claimStop ch cl ≠ some (.refuse .refusedResetting) := by
  cases cl with
  | none => nofun
  | some cl =>
    cases cl with
    | free => nofun
    | held => exact refuseIf_ne nofun
    | wanted => exact refuseIf_ne nofun
    | handingOver h => rw [claimStop]; split <;> nofun

theorem check2_ne (c : Controller) (o : Order) : c.check2 o ≠ some (.refuse .refusedResetting) := by
  rw [check2]
  split
  · nofun
  · split
    · exact needGood_ne (refuseIf_ne nofun)
    · nofun

theorem check3_ne (c : Controller) (o : Order) : c.check3 o ≠ some (.refuse .refusedResetting) := by
  rw [check3]
  split
  · nofun
  · split
    · nofun
    · exact needGood_ne (refuseIf_ne nofun)
    · exact needGood_ne (refuseIf_ne nofun)
    · nofun

theorem check4_ne (c : Controller) (o : Order) : c.check4 o ≠ some (.refuse .refusedResetting) := by
  rw [check4]
  split
  · exact needGood_ne (refuseIf_ne nofun)
  · nofun

theorem check6_ne (c : Controller) (o : Order) : c.check6 o ≠ some (.refuse .refusedResetting) := by
  rw [check6]
  split <;> nofun

theorem check7_ne (c : Controller) (o : Order) : c.check7 o ≠ some (.refuse .refusedResetting) := by
  rw [check7]
  split
  · nofun
  · split
    · exact refuseIf_ne nofun
    · split
      · exact needGood_ne (refuseIf_ne nofun)
      · nofun

theorem check8_ne (c : Controller) (o : Order) : c.check8 o ≠ some (.refuse .refusedResetting) := by
  rw [check8]
  split
  · split
    · split
      · exact claimStop_ne _ _
      · nofun
    · nofun
  · nofun

theorem check10_ne (c : Controller) (o : Order) : c.check10 o ≠ some (.refuse .refusedResetting) := by
  rw [check10]
  split
  · nofun
  · split
    · exact needGood_ne (refuseIf_ne nofun)
    · nofun

theorem check11_ne (c : Controller) (o : Order) : c.check11 o ≠ some (.refuse .refusedResetting) := by
  rw [check11]
  split
  · exact needGood_ne (refuseIf_ne nofun)
  · exact needGood_ne (refuseIf_ne nofun)
  · nofun

theorem statusReading_ne (c : Controller) (o : Order) : c.statusReading o ≠ some (.refuse .refusedResetting) := by
  rw [statusReading]
  split
  · exact needGood_ne nofun
  · nofun

/-- No check but the first refuses with REFUSED-RESETTING. -/
theorem laterChecks_ne (c : Controller) (o : Order) :
    checks.tail.findSome? (fun k => k c o) ≠ some (.refuse .refusedResetting) := fun h => by
  obtain ⟨k, hk, e⟩ := List.exists_of_findSome?_eq_some h
  revert e
  simp only [checks, List.tail_cons, List.mem_cons, List.not_mem_nil, or_false] at hk
  rcases hk with rfl | rfl | rfl | rfl | rfl | rfl | rfl | rfl | rfl | rfl | rfl
  · exact check2_ne c o
  · exact check3_ne c o
  · exact check4_ne c o
  · exact refuseIf_ne nofun
  · exact check6_ne c o
  · exact check7_ne c o
  · exact check8_ne c o
  · exact refuseIf_ne nofun
  · exact check10_ne c o
  · exact check11_ne c o
  · exact statusReading_ne c o

/-- The first check that stops an order stops it. -/
theorem runChecks_eq (c : Controller) (o : Order) :
    c.runChecks o = (c.check1 o).or (checks.tail.findSome? fun k => k c o) := by
  rw [runChecks, checks, List.findSome?_cons, List.tail_cons]
  cases c.check1 o <;> rfl

/-- REFUSED-RESETTING is the answer of check 1 alone. -/
theorem runChecks_resetting_iff {c : Controller} {o : Order} :
    c.runChecks o = some (.refuse .refusedResetting) ↔ c.check1 o = some (.refuse .refusedResetting) := by
  rw [runChecks_eq, Option.or_eq_some_iff]
  exact or_iff_left fun h => laterChecks_ne c o h.2

/-- The functions that check 1 refuses while the link recovers. -/
theorem waitsOutRecovery_iff (fn : Option Func) : fn.any (·.waitsOutRecovery) = true ↔
    fn ∈ [some .read, some .write, some .verify, some .formatTrack, some .seek, some .sync, some .claim,
      some .commit] := by
  cases fn with
  | none => simp
  | some fn => cases fn <;> decide

/-- An undefined function passes check 1 outside a level-3 reset and fails check 2. -/
theorem runChecks_undefined {c : Controller} {o : Order} (fn : o.fn = none) (h : c.level3 = none) :
    c.runChecks o = some (.refuse .refusedFunction) := by
  have first : c.check1 o = none := by simp [check1, refuseIf, fn, h]
  have second : c.check2 o = some (.refuse .refusedFunction) := by simp [check2, fn]
  rw [runChecks_eq, first, checks, List.tail_cons, List.findSome?_cons, second]
  rfl

end Controller

open Controller in
/-- Settles O7: a refusal is answered and no more; which check refuses with REFUSED-RESETTING, and why. -/
theorem refusedOrderChangesNothing : Obligations.RefusedOrderChangesNothing :=
  ⟨fun _ _ _ _ order up timers refused => refused_gives order up timers refused,
    fun ch code f _ up level3 timers =>
      refused_gives (i := .undefinedFunction ch code f) (o := { channel := ch, frame := f, code := code, fn := none }) rfl
        up timers (runChecks_undefined rfl level3),
    fun c o => by rw [runChecks_resetting_iff, check1_eq_some_iff, waitsOutRecovery_iff]⟩

end Sys2Proof.Machine
end


section
/-! The end of a step (O4): the two timers follow their conditions, a raised write-fault line is found, and each port
with nothing under way begins its next frame. -/

namespace Sys2Proof.Machine

namespace Controller

/-! The outbound arbiters. -/

/-- The next frame of a port is made of the records, the buffers and the three queues. -/
theorem nextFrame_congr {c d : Controller} {p q : Port} (records : d.records = c.records)
    (buffers : d.buffers = c.buffers) (delivery : q.delivery = p.delivery) (ready : q.ready = p.ready)
    (notices : q.notices = p.notices) : d.nextFrame q = c.nextFrame p := by
  have find : d.findRecord = c.findRecord := by funext n; rw [findRecord, records]; rfl
  have frame : ∀ r, d.deliveryFrame r = c.deliveryFrame r := fun r => by
    simp only [deliveryFrame, nextDataFrame, bufferWords, buffers]
  simp only [nextFrame, find, frame, delivery, ready, notices]

/-- A port as its outbound arbiter leaves it (R169). -/
def pumped (c : Controller) (p : Port) : Port :=
  if p.link == .detached || p.out.isSome then p
  else { p with out := c.nextFrame p, stall := if (c.nextFrame p).any (·.ofDelivery) then some Config.stallMs else none }

theorem pumpPort_eq (c : Controller) (ch : Channel) : c.pumpPort ch = c.setPort ch (c.pumped (c.port ch)) := by
  unfold pumpPort pumped
  dsimp only
  split
  · simp only [setPort, port, PerChannel.set_get_self]
  · rfl

/-- Each port is pumped by itself. -/
theorem pump_port (c : Controller) (ch : Channel) : c.pump.port ch = c.pumped (c.port ch) := by
  have other : (c.pumpPort .a).pumped = c.pumped := by
    funext p
    have : (c.pumpPort .a).nextFrame p = c.nextFrame p := by rw [pumpPort_eq]; exact nextFrame_congr rfl rfl rfl rfl rfl
    simp only [pumped, this]
  have kept : (c.pumpPort .a).port .b = c.port .b := by rw [pumpPort_eq]; rfl
  rw [pump, pumpPort_eq, other, kept]
  cases ch with
  | a => rw [pumpPort_eq]; rfl
  | b => rfl

/-- A pump moves the two ports and nothing else. -/
theorem pump_eq (c : Controller) :
    c.pump = { c with ports := { a := c.pumped c.ports.a, b := c.pumped c.ports.b } } := by
  have ports : c.pump.ports = { a := c.pumped c.ports.a, b := c.pumped c.ports.b } :=
    congrArg₂ PerChannel.mk (c.pump_port .a) (c.pump_port .b)
  have rest : c.pump = { c with ports := c.pump.ports } := by
    rw [pump, pumpPort_eq, pumpPort_eq]
    rfl
  rw [rest, ports]

/-- Of a pumped port the three queues and the link stand as they were. -/
theorem pumped_rest (c : Controller) (p : Port) : (c.pumped p).link = p.link ∧ (c.pumped p).delivery = p.delivery ∧
    (c.pumped p).ready = p.ready ∧ (c.pumped p).notices = p.notices := by
  unfold pumped
  split <;> exact ⟨rfl, rfl, rfl, rfl⟩

/-- A pumped port with its link up and nothing under way has nothing to send. -/
theorem nextFrame_of_pumped {c : Controller} {p : Port} (up : (c.pumped p).link ≠ .detached)
    (idle : (c.pumped p).out = none) : c.nextFrame (c.pumped p) = none := by
  obtain ⟨link, delivery, ready, notices⟩ := c.pumped_rest p
  rw [nextFrame_congr rfl rfl delivery ready notices]
  rw [link] at up
  unfold pumped at idle
  split at idle
  · rename_i h
    simp [up, idle] at h
  · exact idle

/-! The two timers. -/

theorem modDrive_same {c : Controller} {f : Sequencer → Sequencer} (h : f c.drive = c.drive) : c.modDrive f = c := by
  rw [modDrive, h]

/-- The ready-wait timer, its word readable. -/
theorem settleReadyWait_eq {c : Controller} (good : c.tables.active.drive.w2.good = true) :
    c.settleReadyWait = c.modDrive fun d => { d with
      readyWait := if c.readyWaitDue then some (d.readyWait.getD (c.tables.active.drive.readyWait * 100)) else none } := by
  unfold settleReadyWait
  cases due : c.readyWaitDue with
  | false => rfl
  | true =>
    cases running : c.drive.readyWait with
    | none => simp [readReadyWait, readTimer, good, modDrive, running, Config.tenthMs]
    | some t =>
      refine Eq.trans ?_ (modDrive_same ?_).symm
      · simp
      · rw [running, if_pos rfl, Option.getD_some, ← running]

/-- The idle timer, its word readable. -/
theorem settleIdle_eq {c : Controller} (good : c.tables.active.drive.w3.good = true) (was : Bool) :
    c.settleIdle was = c.modDrive fun d => { d with
      idle := if c.idleDue && decide (0 < c.tables.active.drive.idleUnload) then
        some (d.idle.getD (c.tables.active.drive.idleUnload * 60000)) else none } := by
  unfold settleIdle
  cases due : c.idleDue with
  | false => rfl
  | true =>
    by_cases zero : c.tables.active.drive.idleUnload = 0
    · simp [good, zero]
    · cases running : c.drive.idle with
      | none => simp [good, zero, modDrive, running, Config.minuteMs, Nat.pos_of_ne_zero zero]
      | some t =>
        refine Eq.trans ?_ (modDrive_same ?_).symm
        · simp [good, zero]
        · simp only [Nat.pos_of_ne_zero zero, decide_true, Bool.and_self, if_true]
          rw [running, Option.getD_some, ← running]

/-- The Drive Record stands as it was through the end of a step. -/
theorem settle_driveRecord (before after : Controller) :
    (before.settle after).tables.active.drive = after.tables.active.drive := by
  have clearing : after.startClearing.tables = after.tables := by unfold startClearing; split <;> rfl
  have readyWait : ∀ c : Controller, c.settleReadyWait.tables.active.drive = c.tables.active.drive := fun c => by
    unfold settleReadyWait
    split
    · rfl
    · split
      · rfl
      · exact (readTimer_sameRest ..).record
  have idle : ∀ (c : Controller) (was : Bool), (c.settleIdle was).tables.active.drive = c.tables.active.drive :=
    fun c was => by
      unfold settleIdle
      dsimp only
      split
      · rfl
      · split
        · split
          · rfl
          · exact (tableFault_sameRest c).record
        · split
          · rfl
          · split <;> rfl
  rw [settle, pump_eq]
  exact (idle ..).trans ((readyWait _).trans (by rw [clearing]))

/-- A raised write-fault line is found in READY. -/
theorem startClearing_found {c : Controller} (ready : c.startClearing.drive.state = .ready)
    (line : c.startClearing.drive.writeFaultLine = true) (idle : c.startClearing.anyIn .active = false) :
    c.startClearing.drive.clearing = true := by
  by_cases h : (c.drive.state == .ready && c.drive.writeFaultLine && !c.drive.clearing && !c.anyIn .active) = true
  · rw [startClearing, if_pos h]
    rfl
  · rw [startClearing, if_neg h] at ready line idle ⊢
    simpa [ready, line, idle] using h

/-- The end of a step whose Drive Record words can be read, written out. -/
theorem settle_eq (before after : Controller) (good : after.timersReadable = true) :
    ∃ readyWait idle, before.settle after = (after.startClearing.modDrive fun d =>
        { d with readyWait := readyWait, idle := idle }).pump ∧
      readyWait.isSome = after.startClearing.readyWaitDue ∧
      idle.isSome = (after.startClearing.idleDue && decide (0 < after.tables.active.drive.idleUnload)) := by
  simp only [timersReadable, Bool.and_eq_true] at good
  have tables : after.startClearing.tables = after.tables := by unfold startClearing; split <;> rfl
  rw [settle, settleReadyWait_eq (by rw [tables]; exact good.1), settleIdle_eq (by rw [modDrive_tables, tables]; exact good.2)]
  refine ⟨_, _, rfl, ?_, ?_⟩
  · cases after.startClearing.readyWaitDue <;> rfl
  · rw [modDrive_tables, tables]
    change (if (after.startClearing.idleDue && _) = true then some _ else none).isSome = _
    cases after.startClearing.idleDue && decide (0 < after.tables.active.drive.idleUnload) <;> rfl

/-! The two timers as they start. -/

theorem settleReadyWait_starts {c : Controller} (due : c.readyWaitDue = true) (stopped : c.drive.readyWait = none) :
    c.settleReadyWait = c.readReadyWait.1.modDrive fun d => { d with readyWait := some c.readReadyWait.2 } := by
  simp [settleReadyWait, due, stopped]

end Controller

open Controller in
/-- Settles O4: the end of a step written out, and what its timers and its ports are then. -/
theorem endOfStepFollowsItsConditions : Obligations.EndOfStepFollowsItsConditions := by
  refine ⟨fun i s t h readable => ?_, fun c was => ?_⟩
  · have ht : t.ctl = s.ctl.settle (i.effect s.ctl) := by rw [exec_next h]
    have good : (i.effect s.ctl).timersReadable = true := by
      rwa [timersReadable, ht, settle_driveRecord] at readable
    have tables : (i.effect s.ctl).startClearing.tables = (i.effect s.ctl).tables := by
      unfold startClearing; split <;> rfl
    obtain ⟨readyWait, idle, settled, readyDue, idleDue⟩ := settle_eq s.ctl _ good
    rw [settled] at ht
    rw [ht]
    refine ⟨by rw [pump_eq]; exact readyDue, ?_, ?_, fun ch up out => ?_⟩
    · rw [pump_eq]
      exact idleDue.trans (by rw [← tables]; rfl)
    · rw [pump_eq]
      exact startClearing_found
    · rw [pump_port] at up out ⊢
      rw [← nextFrame_of_pumped up out, pump_eq]
      exact nextFrame_congr rfl rfl rfl rfl rfl
  · dsimp only
    refine ⟨fun due stopped => ?_, fun due stopped => ?_⟩
    · rw [settleReadyWait_starts due stopped, readReadyWait, readTimer]
      exact ⟨fun good => by rw [if_pos good]; rfl, fun bad => by rw [bad]; rfl⟩
    · simp only [settleIdle, due, stopped]
      refine ⟨fun good pos => ?_, fun good zero => ?_, fun bad first => ?_, fun bad again => ?_⟩
      · simp [good, Nat.ne_of_gt pos, Config.minuteMs]
      · simp only [good, zero, Bool.not_true, Bool.false_eq_true, if_false, if_true]
        exact modDrive_same (by rw [← stopped])
      · simp [bad, first]
      · simp [bad, again]

end Sys2Proof.Machine
end


section
/-! Outbound frames (O5): the frame that a port begins, and the words of the frames, field by field. -/

namespace Sys2Proof.Machine

/-! Fields laid side by side in a word. -/

/-- The number that fields make, each given by its highest bit, its lowest bit and its value. -/
def layoutSum (fs : List (Nat × Nat × Nat)) : Nat := (fs.map fun f => place f.2.2 f.2.1).sum

/-- The fields stand below `top` and one below the other. -/
def descends (top : Nat) : List (Nat × Nat × Nat) → Bool
  | [] => true
  | (hi, lo, _) :: rest => decide (hi < top) && decide (lo ≤ hi) && descends lo rest

/-- Every value fits its field. -/
def Fits (fs : List (Nat × Nat × Nat)) : Prop := ∀ f ∈ fs, f.2.2 < 2 ^ (f.1 + 1 - f.2.1)

theorem layoutSum_cons (hi lo v : Nat) (fs : List (Nat × Nat × Nat)) :
    layoutSum ((hi, lo, v) :: fs) = v * 2 ^ lo + layoutSum fs := by simp [layoutSum, place]

theorem descends_cons {top hi lo v : Nat} {fs : List (Nat × Nat × Nat)}
    (h : descends top ((hi, lo, v) :: fs) = true) : hi < top ∧ lo ≤ hi ∧ descends lo fs = true := by
  simpa [descends, and_assoc] using h

theorem layoutSum_lt : ∀ {fs : List (Nat × Nat × Nat)} {top : Nat}, descends top fs = true → Fits fs →
    layoutSum fs < 2 ^ top
  | [], top, _, _ => Nat.two_pow_pos top
  | (hi, lo, v) :: fs, top, d, fits => by
    obtain ⟨below, le, rest⟩ := descends_cons d
    have tail := layoutSum_lt rest fun f hf => fits f (List.mem_cons_of_mem _ hf)
    have head : v + 1 ≤ 2 ^ (hi + 1 - lo) := fits _ (List.mem_cons_self ..)
    rw [layoutSum_cons]
    calc v * 2 ^ lo + layoutSum fs < (v + 1) * 2 ^ lo := by rw [Nat.succ_mul]; omega
      _ ≤ 2 ^ (hi + 1 - lo) * 2 ^ lo := Nat.mul_le_mul_right _ head
      _ = 2 ^ (hi + 1) := by rw [← Nat.pow_add]; congr 1; omega
      _ ≤ 2 ^ top := Nat.pow_le_pow_right (by omega) below

/-- A field above the bits that are read leaves no trace in them. -/
theorem div_mod_of_high (v S : Nat) {lo hi' lo' : Nat} (h : hi' < lo) (le : lo' ≤ hi') :
    (v * 2 ^ lo + S) / 2 ^ lo' % 2 ^ (hi' + 1 - lo') = S / 2 ^ lo' % 2 ^ (hi' + 1 - lo') := by
  obtain ⟨k, rfl⟩ : ∃ k, lo = lo' + ((hi' + 1 - lo') + k) := ⟨lo - hi' - 1, by omega⟩
  have : v * 2 ^ (lo' + ((hi' + 1 - lo') + k)) = 2 ^ lo' * (2 ^ (hi' + 1 - lo') * (v * 2 ^ k)) := by
    rw [Nat.pow_add, Nat.pow_add]
    ring
  rw [this, Nat.mul_add_div (Nat.two_pow_pos lo'), Nat.mul_add_mod]

theorem layout_field : ∀ {fs : List (Nat × Nat × Nat)} {top : Nat}, descends top fs = true → Fits fs →
    ∀ f ∈ fs, layoutSum fs / 2 ^ f.2.1 % 2 ^ (f.1 + 1 - f.2.1) = f.2.2 ∧ f.1 < top ∧ f.2.1 ≤ f.1
  | (hi, lo, v) :: fs, top, d, fits, f, hf => by
    obtain ⟨below, le, rest⟩ := descends_cons d
    have fits' : Fits fs := fun f hf => fits f (List.mem_cons_of_mem _ hf)
    rw [layoutSum_cons]
    rcases List.mem_cons.mp hf with rfl | hf
    · refine ⟨?_, below, le⟩
      rw [Nat.mul_comm, Nat.mul_add_div (Nat.two_pow_pos lo), Nat.div_eq_of_lt (layoutSum_lt rest fits'), Nat.add_zero]
      exact Nat.mod_eq_of_lt (fits _ (List.mem_cons_self ..))
    · obtain ⟨value, lower, ordered⟩ := layout_field rest fits' f hf
      exact ⟨(div_mod_of_high v _ lower ordered).trans value, by omega, ordered⟩

/-! Bits that no field takes. -/

theorem field_eq_zero_bits {w : Word} {hi lo : Nat} (h : field w hi lo = 0) (i : Nat) (lt : i < hi + 1 - lo) :
    w.toNat.testBit (lo + i) = false := by
  have : (w.toNat / 2 ^ lo % 2 ^ (hi + 1 - lo)).testBit i = false := by
    rw [show w.toNat / 2 ^ lo % 2 ^ (hi + 1 - lo) = 0 from h]
    exact Nat.zero_testBit i
  rwa [Nat.testBit_mod_two_pow, Nat.testBit_div_two_pow, decide_eq_true lt, Bool.true_and, Nat.add_comm] at this

/-- What stands in the open bits does not reach a field apart from them. -/
theorem field_openWord (o : OpenWord) {rest : Word} {hi lo : Nat} (clear : field rest hi lo = 0) (fields : List Nat) :
    field (openWord o rest fields) hi lo = field (word fields) hi lo := by
  refine Nat.eq_of_testBit_eq fun i => ?_
  simp only [field, openWord, BitVec.toNat_or, BitVec.toNat_and, Nat.testBit_mod_two_pow, Nat.testBit_div_two_pow,
    Nat.testBit_or, Nat.testBit_and]
  by_cases lt : i < hi + 1 - lo
  · rw [Nat.add_comm i lo, field_eq_zero_bits clear i lt]
    simp
  · simp [lt]

/-! Fields of words that hold. -/

/-- Where every value fits its field, every field of its word reads back as its value. -/
def Holds (fields : List (Word × Nat × Nat × Nat)) : Prop :=
  (∀ w hi lo v, (w, hi, lo, v) ∈ fields → v < 2 ^ (hi + 1 - lo)) →
    ∀ w hi lo v, (w, hi, lo, v) ∈ fields → field w hi lo = v

theorem Holds.append {a b : List (Word × Nat × Nat × Nat)} (ha : Holds a) (hb : Holds b) : Holds (a ++ b) :=
  fun fits w hi lo v h => (List.mem_append.mp h).elim
    (ha (fun w hi lo v h => fits w hi lo v (List.mem_append_left _ h)) w hi lo v)
    (hb (fun w hi lo v h => fits w hi lo v (List.mem_append_right _ h)) w hi lo v)

/-- Two fields in the other order. -/
theorem Holds.swap {a b : Word × Nat × Nat × Nat} (h : Holds [a, b]) : Holds [b, a] := by
  have same : ∀ x, x ∈ [a, b] ↔ x ∈ [b, a] := fun x => by simp [or_comm]
  exact fun fits w hi lo v m => h (fun w hi lo v m => fits w hi lo v ((same _).mp m)) w hi lo v ((same _).mpr m)

theorem word_singleton (n : Nat) : word [n] = BitVec.ofNat 16 n := by simp [word]

/-- A word made of fields one below the other. -/
theorem holds_word {fields : List Nat} (fs : List (Nat × Nat × Nat)) (sum : fields.sum = layoutSum fs)
    (d : descends 16 fs = true) : Holds (fs.map fun f => (word fields, f)) := by
  intro fits w hi lo v h
  have fits' : Fits fs := fun f hf => fits (word fields) f.1 f.2.1 f.2.2 (List.mem_map_of_mem hf)
  obtain ⟨f, hf, e⟩ := List.mem_map.mp h
  cases e
  rw [field, word, BitVec.toNat_ofNat, sum, Nat.mod_eq_of_lt (layoutSum_lt d fits')]
  exact (layout_field d fits' _ hf).1

/-- The same with open bits apart from the fields. -/
theorem holds_openWord (o : OpenWord) {rest : Word} {fields : List Nat} (fs : List (Nat × Nat × Nat))
    (sum : fields.sum = layoutSum fs) (d : descends 16 fs = true)
    (clear : (fs.all fun f => field rest f.1 f.2.1 == 0) = true) :
    Holds (fs.map fun f => (openWord o rest fields, f)) := by
  intro fits w hi lo v h
  obtain ⟨f, hf, e⟩ := List.mem_map.mp h
  cases e
  rw [field_openWord o (by simpa using List.all_eq_true.mp clear _ hf)]
  refine holds_word fs sum d (fun w hi lo v h => ?_) _ _ _ _ (List.mem_map_of_mem hf)
  obtain ⟨g, hg, e⟩ := List.mem_map.mp h
  cases e
  exact fits _ _ _ _ (List.mem_map_of_mem hg)

/-! The mark word of an entry list. -/

/-- The sum of the marks from a bit on. -/
def markSum (entries : List ListedEntry) (k : Nat) : Nat :=
  ((entries.zipIdx k).map fun p => place (flag p.1.failed) p.2).sum

theorem markSum_cons (e : ListedEntry) (es : List ListedEntry) (k : Nat) :
    markSum (e :: es) k = flag e.failed * 2 ^ k + markSum es (k + 1) := by
  simp [markSum, place]

theorem markSum_succ : ∀ (es : List ListedEntry) (k : Nat), markSum es (k + 1) = 2 * markSum es k
  | [], _ => rfl
  | e :: es, k => by
    rw [markSum_cons, markSum_cons, markSum_succ es (k + 1), Nat.pow_succ]
    ring

theorem markSum_testBit : ∀ (es : List ListedEntry) (i : Nat), (markSum es 0).testBit i = es[i]?.any (·.failed)
  | [], i => by simp [markSum]
  | e :: es, i => by
    have head : markSum (e :: es) 0 = 2 * markSum es 0 + flag e.failed := by
      rw [markSum_cons, markSum_succ]
      omega
    have small : flag e.failed < 2 := by cases e.failed <;> decide
    cases i with
    | zero =>
      rw [head, Nat.testBit_zero, List.getElem?_cons_zero, Option.any_some, Nat.mul_add_mod]
      cases e.failed <;> rfl
    | succ i =>
      rw [head, Nat.testBit_succ, List.getElem?_cons_succ, ← markSum_testBit es i,
        Nat.mul_add_div (by omega), Nat.div_eq_of_lt small, Nat.add_zero]

/-- Bit i of the mark word says whether entry i failed (R178). -/
theorem bit_markWord (es : List ListedEntry) {i : Nat} (h : i < 16) : bit (markWord es) i = es[i]?.any (·.failed) := by
  rw [bit, markWord, word, BitVec.getLsbD_ofNat, decide_eq_true h, Bool.true_and]
  exact markSum_testBit es i

/-! The frames. -/

theorem noticeFrame_words (n : Notice) : noticeFrame n = [49155, BitVec.ofNat 16 n.kind, n.payload] := by
  rw [noticeFrame, word_singleton]
  rfl

/-- The words of an answer after its third word (R178). -/
theorem answerFrame_words (a : Answer) : ∃ w1 w2 w3,
    let rest := (a.lsa.map (BitVec.ofNat 16)).toList ++ (a.index.map (BitVec.ofNat 16)).toList ++
      ((a.deferred.map fun d => [BitVec.ofNat 16 d.tag.toNat, BitVec.ofNat 16 d.lsa, BitVec.ofNat 16 d.kind.value,
        BitVec.ofNat 16 d.further]).getD []) ++ a.body.words
    answerFrame a = BitVec.ofNat 16 (32768 + rest.length + 4) :: w1 :: w2 :: w3 :: rest ∧
    Holds [(w1, 15, 8, a.tag.toNat), (w1, 7, 0, a.func.toNat),
      (w2, 15, 10, a.code.value), (w2, 9, 6, a.done), (w2, 5, 5, flag a.soft), (w2, 4, 4, flag a.unconfirmed),
      (w2, 3, 3, flag a.early),
      (w3, 15, 12, (a.kind.map (·.value)).getD 0), (w3, 11, 8, (a.reason.map (·.value)).getD 0),
      (w3, 7, 7, flag a.lsa.isSome), (w3, 6, 6, flag a.index.isSome), (w3, 5, 5, flag a.deferred.isSome)] := by
  refine ⟨_, _, _, ?_, ((holds_word (fields := [place a.tag.toNat 8, a.func.toNat])
    [(15, 8, a.tag.toNat), (7, 0, a.func.toNat)] (by simp [layoutSum, place]) rfl).append
    (holds_openWord .answerCode (rest := 0x0007#16)
      (fields := [place a.code.value 10, place a.done 6, place (flag a.soft) 5, place (flag a.unconfirmed) 4,
        place (flag a.early) 3])
      [(15, 10, a.code.value), (9, 6, a.done), (5, 5, flag a.soft), (4, 4, flag a.unconfirmed), (3, 3, flag a.early)]
      (by simp [layoutSum]) rfl (by simp [field]))).append
    (holds_openWord .answerKind (rest := 0x001F#16)
      (fields := [place ((a.kind.map ErrorKind.value).getD 0) 12, place ((a.reason.map CommitReason.value).getD 0) 8,
        place (flag a.lsa.isSome) 7, place (flag a.index.isSome) 6, place (flag a.deferred.isSome) 5])
      [(15, 12, (a.kind.map ErrorKind.value).getD 0), (11, 8, (a.reason.map CommitReason.value).getD 0), (7, 7, flag a.lsa.isSome),
        (6, 6, flag a.index.isSome), (5, 5, flag a.deferred.isSome)] (by simp [layoutSum]) rfl (by simp [field]))⟩
  have words : (fun d : DeferredRecord => d.words) = fun d => [BitVec.ofNat 16 d.tag.toNat, BitVec.ofNat 16 d.lsa,
      BitVec.ofNat 16 d.kind.value, BitVec.ofNat 16 d.further] := by
    funext d
    simp only [DeferredRecord.words, word_singleton]
  rw [answerFrame, Answer.tail, words]
  simp only [word_singleton, frameHead, List.append_assoc, List.cons_append, List.nil_append, List.length_cons]
  rw [word]
  refine congrArg₂ List.cons (congrArg (BitVec.ofNat 16) ?_) rfl
  rw [place, List.sum_cons, List.sum_cons, List.sum_nil, Nat.add_zero]
  exact (Nat.add_assoc _ _ 4).symm

/-- The words of a status block (R35, R178). -/
theorem statusBlock_words (b : StatusBlock) : ∃ s0 s1 s3 s4 s5, ∃ entry : ClaimEntry → Word,
    (AnswerBody.status b).words = [s0, s1, BitVec.ofNat 16 b.cylinder, s3, s4, s5, BitVec.ofNat 16 b.claims.length] ++
      b.claims.map entry ∧
    Holds [(s0, 15, 15, channelValue b.channel), (s0, 14, 13, b.linkA.value), (s0, 12, 11, b.linkB.value),
      (s0, 10, 10, flag b.management), (s0, 9, 9, flag b.overflow), (s0, 8, 8, flag b.mode.isFallback),
      (s0, 7, 5, b.mode.reasonValue), (s0, 4, 4, flag b.unconfirmed), (s0, 3, 3, flag b.commitPending),
      (s0, 2, 2, flag b.cartridge), (s0, 1, 1, flag b.targetOn), (s0, 0, 0, flag b.targetPending)] ∧
    Holds [(s1, 15, 8, b.errorCount), (s1, 7, 4, b.state.value), (s1, 3, 2, b.state.faultValue),
      (s1, 1, 1, flag b.degraded), (s1, 0, 0, flag b.suspectOverflow)] ∧
    Holds [(s3, 15, 11, b.records), (s3, 10, 6, b.ownRecords), (s3, 5, 1, b.ownLingering),
      (s3, 0, 0, flag b.deferredSet)] ∧
    Holds [(s4, 15, 12, b.freeBuffers), (s4, 11, 8, b.ownBuffers), (s4, 7, 4, b.suspects), (s4, 3, 0, b.consecutive)] ∧
    Holds [(s5, 15, 10, b.counted), (s5, 9, 4, b.retried)] ∧
    ∀ e, Holds [(entry e, 15, 12, e.extent), (entry e, 11, 10, e.state.value), (entry e, 9, 9, flag e.holder.isSome),
      (entry e, 8, 8, (e.holder.map channelValue).getD 0), (entry e, 7, 7, flag e.waiter.isSome),
      (entry e, 6, 6, (e.waiter.map channelValue).getD 0)] := by
  refine ⟨_, _, _, _, _, ClaimEntry.word, by rw [← word_singleton, ← word_singleton]; rfl, ?_, ?_, ?_, ?_, ?_, fun e => ?_⟩
  · exact holds_word [(15, 15, channelValue b.channel), (14, 13, b.linkA.value), (12, 11, b.linkB.value),
      (10, 10, flag b.management), (9, 9, flag b.overflow), (8, 8, flag b.mode.isFallback),
      (7, 5, b.mode.reasonValue), (4, 4, flag b.unconfirmed), (3, 3, flag b.commitPending),
      (2, 2, flag b.cartridge), (1, 1, flag b.targetOn), (0, 0, flag b.targetPending)] (by simp [layoutSum, place]) rfl
  · exact holds_word [(15, 8, b.errorCount), (7, 4, b.state.value), (3, 2, b.state.faultValue),
      (1, 1, flag b.degraded), (0, 0, flag b.suspectOverflow)] (by simp [layoutSum, place]) rfl
  · exact holds_word [(15, 11, b.records), (10, 6, b.ownRecords), (5, 1, b.ownLingering),
      (0, 0, flag b.deferredSet)] (by simp [layoutSum, place]) rfl
  · exact holds_word [(15, 12, b.freeBuffers), (11, 8, b.ownBuffers), (7, 4, b.suspects), (3, 0, b.consecutive)]
      (by simp [layoutSum, place]) rfl
  · exact holds_openWord .readCounts [(15, 10, b.counted), (9, 4, b.retried)] (by simp [layoutSum]) rfl (by simp [field])
  · exact holds_openWord .claimEntry [(15, 12, e.extent), (11, 10, e.state.value), (9, 9, flag e.holder.isSome),
      (8, 8, (e.holder.map channelValue).getD 0), (7, 7, flag e.waiter.isSome),
      (6, 6, (e.waiter.map channelValue).getD 0)]
      (by cases e.holder <;> cases e.waiter <;> simp [layoutSum, place, optChannelValue, flag, Nat.add_assoc]) rfl
      (by simp [field])

/-- The frame that each port begins (R169, R170). -/
theorem pump_preference (c : Controller) (ch : Channel) :
    ((c.port ch).link = .detached ∨ (c.port ch).out.isSome = true → (c.pump.port ch) = c.port ch) ∧
    ((c.port ch).link ≠ .detached → (c.port ch).out = none →
      (∀ r, (c.port ch).delivery.head?.bind c.findRecord = some r →
        (c.pump.port ch).stall = some 2000 ∧
        (∀ b rest, r.buffers = b :: rest → (c.pump.port ch).out =
          some { source := .data, words := dataFrame r.tag r.sent (r.job.start + r.sent) (c.bufferWords b) }) ∧
        (∀ a, r.buffers = [] → r.prepared = some a →
          (c.pump.port ch).out = some { source := .deliveryAnswer, words := answerFrame a })) ∧
      ((c.port ch).delivery.head?.bind c.findRecord = none →
        (c.pump.port ch).stall = none ∧
        (∀ a rest, (c.port ch).ready = a :: rest →
          (c.pump.port ch).out = some { source := .answer, words := answerFrame a }) ∧
        (∀ n rest, (c.port ch).ready = [] → (c.port ch).notices = n :: rest →
          (c.pump.port ch).out = some { source := .notice, words := noticeFrame n }) ∧
        ((c.port ch).ready = [] → (c.port ch).notices = [] → (c.pump.port ch).out = none))) := by
  rw [Controller.pump_port]
  generalize c.port ch = p
  refine ⟨fun h => ?_, fun up idle => ?_⟩
  · rw [Controller.pumped, if_pos]
    simpa using h
  · have begins : c.pumped p = { p with
        out := c.nextFrame p
        stall := if (c.nextFrame p).any (·.ofDelivery) then some Config.stallMs else none } := by
      simp [Controller.pumped, up, idle]
    rw [begins]
    refine ⟨fun r hr => ?_, fun hr => ?_⟩
    · have frame : c.nextFrame p = some (c.deliveryFrame r) := by rw [Controller.nextFrame, hr]
      refine ⟨?_, fun b rest hb => ?_, fun a hb ha => ?_⟩
      · have ofDelivery : (c.deliveryFrame r).ofDelivery = true := by
          unfold Controller.deliveryFrame
          split <;> rfl
        simp [frame, ofDelivery, Config.stallMs]
      · simp [frame, Controller.deliveryFrame, hb, Controller.nextDataFrame]
      · simp [frame, Controller.deliveryFrame, hb, ha]
    · refine ⟨?_, fun a rest ha => ?_, fun n rest ha hn => ?_, fun ha hn => ?_⟩
      · simp only [Controller.nextFrame, hr]
        split
        · rfl
        · split <;> rfl
      · simp [Controller.nextFrame, hr, ha]
      · simp [Controller.nextFrame, hr, ha, hn]
      · simp [Controller.nextFrame, hr, ha, hn]

/-- The payload of each notice (R178). -/
theorem noticePayload (n : Notice) : match n with
    | .claimWanted e => n.kind = 1 ∧ n.payload = BitVec.ofNat 16 e
    | .claimLost e => n.kind = 2 ∧ n.payload = BitVec.ofNat 16 e
    | .tablesCommitted => n.kind = 3 ∧ n.payload = 0
    | .driveState state => n.kind = 4 ∧ Holds [(n.payload, 3, 0, state.value), (n.payload, 5, 4, state.faultValue)]
    | .mediaDegrading => n.kind = 5 ∧ n.payload = 0
    | .fallback reason => n.kind = 6 ∧ n.payload = BitVec.ofNat 16 reason.value
    | .deferredError tag => n.kind = 7 ∧ n.payload = BitVec.ofNat 16 tag.toNat
    | .resetDone level sender =>
      n.kind = 8 ∧ Holds [(n.payload, 15, 8, level), (n.payload, 0, 0, channelValue sender)]
    | .linkAttached sender => n.kind = 9 ∧ n.payload = BitVec.ofNat 16 (channelValue sender)
    | .suspectAdded lsa => n.kind = 10 ∧ n.payload = BitVec.ofNat 16 lsa := by
  cases n with
  | tablesCommitted => exact ⟨rfl, rfl⟩
  | mediaDegrading => exact ⟨rfl, rfl⟩
  | driveState state =>
    exact ⟨rfl, (holds_openWord .driveState [(5, 4, state.faultValue), (3, 0, state.value)]
      (by simp [layoutSum, place, Nat.add_comm]) rfl (by simp [field])).swap⟩
  | resetDone level sender =>
    exact ⟨rfl, holds_openWord .resetDone [(15, 8, level), (0, 0, channelValue sender)] (by simp [layoutSum, place])
      rfl (by simp [field])⟩
  | claimWanted | claimLost | fallback | deferredError | linkAttached | suspectAdded => exact ⟨rfl, word_singleton _⟩

/-- The words of a DATA frame (R178). -/
theorem dataFrame_words (tag : BitVec 8) (position lsa : Nat) (data : List Word) : ∃ w1,
    dataFrame tag position lsa data = 41219 :: w1 :: BitVec.ofNat 16 lsa :: data ∧
    Holds [(w1, 15, 8, tag.toNat), (w1, 2, 0, position)] :=
  ⟨_, by rw [dataFrame, word_singleton]; rfl, holds_openWord .dataPosition [(15, 8, tag.toNat), (2, 0, position)]
    (by simp [layoutSum, place]) rfl (by simp [field])⟩

/-- The words of a list of suspects (R178). -/
theorem suspects_words (es : List Suspect) : ∃ second : Suspect → Word,
    (AnswerBody.suspects es).words = BitVec.ofNat 16 es.length :: 0 ::
      es.flatMap (fun e => [BitVec.ofNat 16 e.lsa, second e]) ∧
    ∀ e, Holds [(second e, 15, 12, e.kind.value), (second e, 11, 8, e.count), (second e, 0, 0, channelValue e.channel)] :=
  ⟨_, by simp only [AnswerBody.words, word_singleton, Suspect.words]; rfl, fun e =>
    holds_openWord .suspectEntry [(15, 12, e.kind.value), (11, 8, e.count), (0, 0, channelValue e.channel)]
      (by simp [layoutSum, place]) rfl (by simp [field])⟩

/-- Settles O5: the preference of the outbound arbiters, and the layout of each frame. -/
theorem outboundFramesFollowThePreference : Obligations.OutboundFramesFollowThePreference := by
  refine ⟨pump_preference, fun n => ⟨_, noticeFrame_words n, ?_⟩, dataFrame_words, answerFrame_words, rfl, fun es =>
    ⟨markWord es, by rw [AnswerBody.words, word_singleton], fun _ _ => bit_markWord es⟩, suspects_words,
    statusBlock_words, rfl, rfl, rfl, rfl, rfl, rfl, rfl, rfl, rfl, rfl, rfl, rfl, rfl, rfl⟩
  have := noticePayload n
  cases n <;> exact this

end Sys2Proof.Machine
end


section
/-! Checks 2 to 7, the fields of the orders and the search of the Extent Table (O8). -/

namespace Sys2Proof.Machine

/-! The fields of the orders. -/

theorem sectorRangeOk_iff {start count : Nat} :
    sectorRangeOk start count = true ↔ 1 ≤ count ∧ count ≤ 8 ∧ start + count ≤ 19200 := by
  have last : Config.lastLsa = 19199 := rfl
  simp only [sectorRangeOk, last, Bool.and_eq_true, decide_eq_true_eq]
  omega

/-- A parse that reads its fields from the words in front and holds them to a range. -/
theorem ite_some_eq_iff {α : Type} {p : Prop} [Decidable p] {a x : α} :
    (if p then some a else none) = some x ↔ p ∧ x = a := by
  split <;> simp_all [eq_comm]

theorem parseSectors_eq_some_iff {ws : List Word} {x : Operands} : parseSectors ws = some x ↔
    ∃ start count rest, ws = start :: count :: rest ∧
      (1 ≤ count.toNat ∧ count.toNat ≤ 8 ∧ start.toNat + count.toNat ≤ 19200) ∧
      x = .sectors start.toNat count.toNat := by
  match ws with
  | [] => simp [parseSectors]
  | [_] => simp [parseSectors]
  | s :: n :: rest =>
    rw [parseSectors, ite_some_eq_iff, sectorRangeOk_iff]
    exact ⟨fun h => ⟨s, n, rest, rfl, h⟩, fun ⟨_, _, _, e, h⟩ => by cases e; exact h⟩

theorem parseWrite_eq_some_iff {ws : List Word} {x : Operands} : parseWrite ws = some x ↔
    ∃ start count data, ws = start :: count :: data ∧
      (1 ≤ count.toNat ∧ count.toNat ≤ 8 ∧ start.toNat + count.toNat ≤ 19200) ∧
      data.length = count.toNat * 256 ∧ x = .writeData start.toNat count.toNat data := by
  match ws with
  | [] => simp [parseWrite]
  | [_] => simp [parseWrite]
  | s :: n :: data =>
    rw [parseWrite, ite_some_eq_iff, Bool.and_eq_true, sectorRangeOk_iff, decide_eq_true_eq, and_assoc,
      Config.wordsPerSector]
    exact ⟨fun h => ⟨s, n, data, rfl, h⟩, fun ⟨_, _, _, e, h⟩ => by cases e; exact h⟩

theorem parseTrack_eq_some_iff {ws : List Word} {x : Operands} : parseTrack ws = some x ↔
    ∃ cylinder head fill rest, ws = cylinder :: head :: fill :: rest ∧ cylinder.toNat ≤ 407 ∧ head.toNat ≤ 1 ∧
      x = .track cylinder.toNat head.toNat fill := by
  match ws with
  | [] => simp [parseTrack]
  | [_] => simp [parseTrack]
  | [_, _] => simp [parseTrack]
  | c :: h :: fill :: rest =>
    rw [parseTrack, ite_some_eq_iff, Bool.and_eq_true, decide_eq_true_eq, decide_eq_true_eq, and_assoc,
      Config.lastCylinder]
    exact ⟨fun k => ⟨c, h, fill, rest, rfl, k⟩, fun ⟨_, _, _, _, e, k⟩ => by cases e; exact k⟩

theorem parseLsa_eq_some_iff {ws : List Word} {x : Operands} : parseLsa ws = some x ↔
    ∃ lsa rest, ws = lsa :: rest ∧ lsa.toNat ≤ 19199 ∧ x = .lsa lsa.toNat := by
  match ws with
  | [] => simp [parseLsa]
  | s :: rest =>
    rw [parseLsa, ite_some_eq_iff, Config.lastLsa]
    exact ⟨fun h => ⟨s, rest, rfl, h⟩, fun ⟨_, _, e, h⟩ => by cases e; exact h⟩

theorem parseExtent_eq_some_iff {ws : List Word} {x : Operands} : parseExtent ws = some x ↔
    ∃ n rest, ws = n :: rest ∧ n.toNat ≤ 15 ∧ x = .extent n.toNat := by
  match ws with
  | [] => simp [parseExtent]
  | n :: rest =>
    rw [parseExtent, ite_some_eq_iff]
    exact ⟨fun h => ⟨n, rest, rfl, h⟩, fun ⟨_, _, e, h⟩ => by cases e; exact h⟩

/-- The five tables by their numbers, with their last index and the words of an entry (R19, R177, R179). -/
def tableRows : List (TableId × Nat × Nat) :=
  [(.channel, 1, 3), (.extent, 15, 4), (.remap, 31, 2), (.drive, 0, 5), (.monitor, 0, 1)]

theorem tableRows_eq_some_iff {n : Nat} {table : TableId} {last size : Nat} :
    tableRows[n]? = some (table, last, size) ↔
      TableId.ofNat? n = some table ∧ last = table.lastIndex ∧ size = table.entryWords := by
  match n with
  | 0 | 1 | 2 | 3 | 4 =>
    constructor
    · intro h; cases h; exact ⟨rfl, rfl, rfl⟩
    · rintro ⟨h, rfl, rfl⟩; cases h; rfl
  | n + 5 => simp [tableRows, TableId.ofNat?]

/-- A run of words is cut into entries of `size` words. -/
theorem cutEntries_length (size : Nat) : ∀ (n : Nat) (ws : List Word), (cutEntries size n ws).length = n
  | 0, _ => rfl
  | n + 1, ws => by rw [cutEntries, List.length_cons, cutEntries_length]

theorem cutEntries_getElem? (size : Nat) : ∀ (n : Nat) (ws : List Word) (i : Nat), i < n →
    (cutEntries size n ws)[i]? = some ((ws.drop (i * size)).take size)
  | n + 1, ws, 0, _ => by simp [cutEntries]
  | n + 1, ws, i + 1, h => by
    rw [cutEntries, List.getElem?_cons_succ, cutEntries_getElem? size n _ i (by omega), List.drop_drop]
    congr 3
    ring

theorem eq_cutEntries_iff {size n : Nat} {ws : List Word} {entries : List (List Word)} :
    entries = cutEntries size n ws ↔
      entries.length = n ∧ ∀ i es, entries[i]? = some es → es = (ws.drop (i * size)).take size := by
  constructor
  · rintro rfl
    refine ⟨cutEntries_length .., fun i es h => ?_⟩
    have lt : i < n := cutEntries_length size n ws ▸ (List.getElem?_eq_some_iff.mp h).1
    exact Option.some.inj (h.symm.trans (cutEntries_getElem? size n ws i lt))
  · rintro ⟨len, each⟩
    refine List.ext_getElem? fun i => ?_
    by_cases lt : i < n
    · rw [cutEntries_getElem? size n ws i lt]
      have there := List.getElem?_eq_getElem (len ▸ lt)
      rw [there, each i _ there]
    · rw [List.getElem?_eq_none (by omega), List.getElem?_eq_none (by rw [cutEntries_length]; omega)]

theorem parseLoad_eq_some_iff {ws : List Word} {x : Operands} : parseLoad ws = some x ↔
    ∃ number start count rest table last size entries,
      ws = number :: start :: count :: rest ∧ tableRows[number.toNat]? = some (table, last, size) ∧ 1 ≤ count.toNat ∧
      count.toNat ≤ 16 ∧ start.toNat + count.toNat ≤ last + 1 ∧ count.toNat * size ≤ rest.length ∧
      entries.length = count.toNat ∧ (∀ i ws, entries[i]? = some ws → ws = (rest.drop (i * size)).take size) ∧
      x = .load table start.toNat entries := by
  match ws with
  | [] => simp [parseLoad]
  | [_] => simp [parseLoad]
  | [_, _] => simp [parseLoad]
  | t :: s :: n :: rest =>
    rw [parseLoad]
    constructor
    · intro h
      split at h
      · rename_i table ht
        obtain ⟨range, rfl⟩ := ite_some_eq_iff.mp h
        simp only [Bool.and_eq_true, decide_eq_true_eq] at range
        obtain ⟨⟨⟨low, high⟩, last⟩, enough⟩ := range
        obtain ⟨len, each⟩ := eq_cutEntries_iff.mp (Eq.refl (cutEntries table.entryWords n.toNat rest))
        exact ⟨t, s, n, rest, table, _, _, _, rfl, tableRows_eq_some_iff.mpr ⟨ht, rfl, rfl⟩, low, high, by omega,
          enough, len, each, rfl⟩
      · exact nomatch h
    · rintro ⟨_, _, _, _, table, _, _, entries, e, row, low, high, last, enough, len, each, rfl⟩
      cases e
      obtain ⟨ht, rfl, rfl⟩ := tableRows_eq_some_iff.mp row
      rw [ht]
      have cut : entries = cutEntries table.entryWords n.toNat rest := eq_cutEntries_iff.mpr ⟨len, each⟩
      refine ite_some_eq_iff.mpr ⟨?_, by rw [cut]⟩
      simp only [Bool.and_eq_true, decide_eq_true_eq]
      exact ⟨⟨⟨low, high⟩, by omega⟩, enough⟩

theorem setRows_eq_some_iff {n : Nat} {set : SetId} :
    [SetId.staged, .active][n]? = some set ↔ SetId.ofNat? n = some set := by
  match n with
  | 0 | 1 => exact .rfl
  | n + 2 => simp [SetId.ofNat?]

theorem parseList_eq_some_iff {ws : List Word} {x : Operands} : parseList ws = some x ↔
    ∃ number named start count rest table last size set,
      ws = number :: named :: start :: count :: rest ∧ tableRows[number.toNat]? = some (table, last, size) ∧
      [SetId.staged, .active][named.toNat]? = some set ∧ start.toNat ≤ last ∧ 1 ≤ count.toNat ∧ count.toNat ≤ 16 ∧
      x = .list table set start.toNat count.toNat := by
  match ws with
  | [] => simp [parseList]
  | [_] => simp [parseList]
  | [_, _] => simp [parseList]
  | [_, _, _] => simp [parseList]
  | t :: st :: s :: n :: rest =>
    rw [parseList]
    constructor
    · intro h
      split at h
      · rename_i table set ht hset
        obtain ⟨range, rfl⟩ := ite_some_eq_iff.mp h
        simp only [Bool.and_eq_true, decide_eq_true_eq] at range
        obtain ⟨⟨last, low⟩, high⟩ := range
        exact ⟨t, st, s, n, rest, table, _, _, set, rfl, tableRows_eq_some_iff.mpr ⟨ht, rfl, rfl⟩,
          setRows_eq_some_iff.mpr hset, last, low, high, rfl⟩
      · exact nomatch h
    · rintro ⟨_, _, _, _, _, table, _, _, set, e, row, hset, last, low, high, rfl⟩
      cases e
      obtain ⟨ht, rfl, rfl⟩ := tableRows_eq_some_iff.mp row
      rw [ht, setRows_eq_some_iff.mp hset]
      simp [last, low, high]

theorem parseTarget_eq_some_iff {ws : List Word} {x : Operands} : parseTarget ws = some x ↔
    ∃ target rest, ws = target :: rest ∧ (target = 0 ∧ x = .target false ∨ target = 1 ∧ x = .target true) := by
  match ws with
  | [] => simp [parseTarget]
  | t :: rest =>
    have zero : t.toNat = 0 ↔ t = 0 := by simp [← BitVec.toNat_inj]
    have one : t.toNat = 1 ↔ t = 1 := by simp [← BitVec.toNat_inj]
    simp only [parseTarget, zero, one, List.cons.injEq]
    constructor
    · intro h
      refine ⟨t, rest, ⟨rfl, rfl⟩, ?_⟩
      split at h
      · exact .inl ⟨‹_›, (Option.some.inj h).symm⟩
      · split at h
        · exact .inr ⟨‹_›, (Option.some.inj h).symm⟩
        · exact nomatch h
    · rintro ⟨_, _, ⟨rfl, rfl⟩, ⟨rfl, rfl⟩ | ⟨rfl, rfl⟩⟩
      · exact if_pos (Eq.refl 0)
      · exact (if_neg (by decide)).trans (if_pos (Eq.refl 1))

theorem parseSuspect_eq_some_iff {ws : List Word} {x : Operands} : parseSuspect ws = some x ↔
    ∃ lsa rest, ws = lsa :: rest ∧
      (lsa = 65535 ∧ x = .suspectAll ∨ lsa.toNat ≤ 19199 ∧ x = .suspect lsa.toNat) := by
  match ws with
  | [] => simp [parseSuspect]
  | l :: rest =>
    have all : l.toNat = 65535 ↔ l = 65535 := by simp [← BitVec.toNat_inj]
    simp only [parseSuspect, List.cons.injEq]
    constructor
    · intro h
      refine ⟨l, rest, ⟨rfl, rfl⟩, ?_⟩
      split at h
      · exact .inl ⟨all.mp ‹_›, (Option.some.inj h).symm⟩
      · exact .inr (ite_some_eq_iff.mp h)
    · rintro ⟨_, _, ⟨rfl, rfl⟩, ⟨rfl, rfl⟩ | ⟨low, rfl⟩⟩
      · exact if_pos (by decide)
      · exact (if_neg (by omega)).trans (if_pos low)

/-! The search of the Extent Table. -/

/-- The entry is valid and contains the range. -/
def ExtentEntry.Contains (e : ExtentEntry) (lo hi : Nat) : Prop := e.valid = true ∧ e.firstLsa ≤ lo ∧ hi ≤ e.lastLsa

theorem ExtentEntry.good_words {e : ExtentEntry} (h : wordsGood e.words = true) :
    e.w0.good = true ∧ e.w1.good = true ∧ e.w2.good = true := by
  simp only [wordsGood, ExtentEntry.words, List.all_cons, Bool.and_eq_true] at h
  exact ⟨h.1, h.2.1, h.2.2.1⟩

/-- An entry of good parity ends the search where it contains the range, and is passed over otherwise. -/
theorem searchExtents_cons_pos {lo hi n : Nat} {e : ExtentEntry} {es : List ExtentEntry}
    (good : wordsGood e.words = true) (h : e.Contains lo hi) : searchExtents lo hi n (e :: es) = .found n e := by
  obtain ⟨w0, w1, w2⟩ := ExtentEntry.good_words good
  obtain ⟨valid, first, last⟩ := h
  simp [searchExtents, w0, w1, w2, valid, first, last]

theorem searchExtents_cons_neg {lo hi n : Nat} {e : ExtentEntry} {es : List ExtentEntry}
    (good : wordsGood e.words = true) (h : ¬e.Contains lo hi) :
    searchExtents lo hi n (e :: es) = searchExtents lo hi (n + 1) es := by
  obtain ⟨w0, w1, w2⟩ := ExtentEntry.good_words good
  cases valid : e.valid with
  | false => simp [searchExtents, w0, valid]
  | true =>
    have out : ¬(e.firstLsa ≤ lo ∧ hi ≤ e.lastLsa) := fun k => h ⟨valid, k⟩
    simp [searchExtents, w0, w1, w2, valid, out]

/-- On words of good parity the search finds the first entry that contains the range. -/
theorem searchExtents_eq_found_iff {lo hi n : Nat} {e : ExtentEntry} : ∀ {es : List ExtentEntry} {k : Nat},
    (∀ e ∈ es, wordsGood e.words = true) →
    (searchExtents lo hi k es = .found n e ↔ k ≤ n ∧ es[n - k]? = some e ∧ e.Contains lo hi ∧
      ∀ m d, m < n - k → es[m]? = some d → ¬d.Contains lo hi)
  | [], k, _ => by simp [searchExtents]
  | d :: es, k, good => by
    have head := good d (List.mem_cons_self ..)
    by_cases h : d.Contains lo hi
    · rw [searchExtents_cons_pos head h]
      constructor
      · intro eq
        cases eq
        simp [h]
      · rintro ⟨le, there, -, before⟩
        by_cases eq : n = k
        · subst eq
          simp only [Nat.sub_self, List.getElem?_cons_zero, Option.some.injEq] at there
          rw [there]
        · exact absurd h (before 0 d (by omega) rfl)
    · rw [searchExtents_cons_neg head h,
        searchExtents_eq_found_iff fun e he => good e (List.mem_cons_of_mem _ he)]
      constructor
      · rintro ⟨le, there, contains, before⟩
        refine ⟨by omega, ?_, contains, fun m o lt ho => ?_⟩
        · rwa [show n - k = n - (k + 1) + 1 by omega, List.getElem?_cons_succ]
        · cases m with
          | zero => cases ho; exact h
          | succ m => exact before m o (by omega) ho
      · rintro ⟨le, there, contains, before⟩
        have ne : n ≠ k := fun eq => by
          subst eq
          simp only [Nat.sub_self, List.getElem?_cons_zero, Option.some.injEq] at there
          exact h (there ▸ contains)
        refine ⟨by omega, ?_, contains, fun m o lt ho => before (m + 1) o (by omega) ho⟩
        rwa [show n - k = n - (k + 1) + 1 by omega, List.getElem?_cons_succ] at there

/-- On words of good parity the search finds nothing where no entry contains the range. -/
theorem searchExtents_eq_notFound_iff {lo hi : Nat} : ∀ {es : List ExtentEntry} {k : Nat},
    (∀ e ∈ es, wordsGood e.words = true) →
    (searchExtents lo hi k es = .notFound ↔ ∀ e ∈ es, ¬e.Contains lo hi)
  | [], k, _ => by simp [searchExtents]
  | d :: es, k, good => by
    have head := good d (List.mem_cons_self ..)
    by_cases h : d.Contains lo hi
    · rw [searchExtents_cons_pos head h]
      exact iff_of_false nofun fun all => all d (List.mem_cons_self ..) h
    · rw [searchExtents_cons_neg head h,
        searchExtents_eq_notFound_iff fun e he => good e (List.mem_cons_of_mem _ he)]
      simp [h]

namespace Controller

theorem extentOf_eq_found_iff {c : Controller} (good : ∀ e ∈ c.tables.active.extents.toList, wordsGood e.words = true)
    {lo hi n : Nat} {e : ExtentEntry} : c.extentOf (lo, hi) = .found n e ↔
      c.tables.active.extents[n]? = some e ∧ e.valid = true ∧ e.firstLsa ≤ lo ∧ hi ≤ e.lastLsa ∧
      ∀ m d, m < n → c.tables.active.extents[m]? = some d → ¬(d.valid = true ∧ d.firstLsa ≤ lo ∧ hi ≤ d.lastLsa) := by
  rw [extentOf, searchExtents_eq_found_iff good]
  simp [ExtentEntry.Contains, and_assoc, Vector.getElem?_toList]

theorem extentOf_eq_notFound_iff {c : Controller}
    (good : ∀ e ∈ c.tables.active.extents.toList, wordsGood e.words = true) {lo hi : Nat} :
    c.extentOf (lo, hi) = .notFound ↔
      ∀ e ∈ c.tables.active.extents.toList, ¬(e.valid = true ∧ e.firstLsa ≤ lo ∧ hi ≤ e.lastLsa) :=
  searchExtents_eq_notFound_iff good

/-! What check 6 looks for. -/

theorem orderExtent_of_range {c : Controller} {o : Order} {ops : Operands} (h : o.operands = some ops)
    (named : ∀ n, ops ≠ .extent n) : c.orderExtent o = ops.range.map c.extentOf := by
  rw [orderExtent, h]
  cases ops with
  | extent n => exact absurd rfl (named n)
  | _ => rfl

theorem orderExtent_extent {c : Controller} {o : Order} {n : Nat} {e : ExtentEntry}
    (good : ∀ e ∈ c.tables.active.extents.toList, wordsGood e.words = true) (h : o.operands = some (.extent n))
    (there : c.tables.active.extents[n]? = some e) :
    c.orderExtent o = some (if e.valid = true then .found n e else .notFound) := by
  have mem : e ∈ c.tables.active.extents.toList := by
    rw [← Vector.getElem?_toList] at there
    exact List.mem_of_getElem? there
  have w0 := (ExtentEntry.good_words (good e mem)).1
  rw [orderExtent, h]
  simp [namedExtent, TableSet.extent?, there, w0]

/-! The checks on words of good parity. -/

theorem needGood_good {t : TWord} (h : t.good = true) (k : Option CheckStop) : needGood t k = k := if_pos h

/-- The functions of the five disk orders. -/
theorem isDisk_iff (fn : Func) : fn.isDisk = true ↔ fn ∈ [Func.read, .write, .verify, .formatTrack, .seek] := by
  cases fn <;> decide

theorem isManagement_iff (fn : Func) : fn.isManagement = true ↔
    fn ∈ [Func.loadTable, .copyActive, .commit, .setDriveTarget, .clearDeferred, .clearSuspect, .clearMonitor] := by
  cases fn <;> decide

/-- The class field that names no class. -/
theorem cls_isNone_iff (o : Order) : o.cls.isNone = true ↔ o.frame.cls = 3#2 := by
  have all : ∀ k : BitVec 2, (Class.ofNat? k.toNat).isNone = true ↔ k = 3#2 := by decide
  exact all o.frame.cls

section

variable {c : Controller} {o : Order} {fn : Func} (hf : o.fn = some fn)
  (good : (c.channelRecord o.channel).w0.good = true)

include hf in
theorem isDisk_of_fn : o.isDisk = fn.isDisk := by rw [Order.isDisk, hf, Option.any_some]

include hf in
theorem operands_of_fn : o.operands = parseOperands fn o.frame.words := by rw [Order.operands, hf, Option.bind_some]

include hf good in
theorem check2_refuses_iff : c.check2 o = some (.refuse .refusedFunction) ↔
    fn ∈ [Func.loadTable, .copyActive, .commit, .setDriveTarget, .clearDeferred, .clearSuspect, .clearMonitor] ∧
      (c.channelRecord o.channel).management = false := by
  rw [check2, hf, ← isManagement_iff]
  dsimp only
  rw [needGood_good good]
  split
  · rename_i h
    simp [h, refuseIf_eq_some_iff]
  · rename_i h
    simp [h]

include hf good in
theorem check3_refuses_iff : c.check3 o = some (.refuse .refusedRange) ↔
    fn ∈ [Func.read, .write, .verify, .formatTrack, .seek] ∧ o.frame.cls = 3#2 ∨
    parseOperands fn o.frame.words = none ∨
    (∃ s n, parseOperands fn o.frame.words = some (.sectors s n) ∧ (c.channelRecord o.channel).maxSectors < n) ∨
    (∃ s n d, parseOperands fn o.frame.words = some (.writeData s n d) ∧
      (c.channelRecord o.channel).maxSectors < n) := by
  rw [check3, isDisk_of_fn hf, operands_of_fn hf, ← isDisk_iff, ← cls_isNone_iff]
  split
  · rename_i h
    simp only [Bool.and_eq_true] at h
    simp [h]
  · rename_i h
    simp only [Bool.and_eq_true] at h
    simp only [h, false_or]
    split
    · rename_i e
      simp [e]
    · rename_i s n e
      simp [e, needGood_good good, refuseIf_eq_some_iff]
    · rename_i s n d e
      simp [e, needGood_good good, refuseIf_eq_some_iff]
    · rename_i ops sectors data e
      refine iff_of_false nofun ?_
      rintro (h | ⟨s, n, h, -⟩ | ⟨s, n, d, h, -⟩)
      · exact absurd (e.symm.trans h) nofun
      · exact sectors s n (Option.some.inj (e.symm.trans h))
      · exact data s n d (Option.some.inj (e.symm.trans h))

include hf good in
theorem check4_refuses_iff : c.check4 o = some (.refuse .refusedClass) ↔
    fn ∈ [Func.read, .write, .verify, .formatTrack, .seek] ∧
      ∃ k, o.cls = some k ∧ (c.channelRecord o.channel).ceiling.rank < k.rank := by
  rw [check4, isDisk_of_fn hf, ← isDisk_iff, needGood_good good]
  split
  · rename_i h
    simp [h, refuseIf_eq_some_iff, Option.any_eq_true]
  · rename_i h
    simp [h]

theorem check5_refuses_iff {c : Controller} {o : Order} : c.check5 o = some (.refuse .refusedTag) ↔
    ∃ r ∈ c.records, r.channel = o.channel ∧ r.tag = o.frame.tag ∧ r.state ≠ .lingering := by
  simp [check5, refuseIf_eq_some_iff, tagLive, Record.live, and_assoc]

theorem check6_refuses_iff {c : Controller} {o : Order} :
    c.check6 o = some (.refuse .refusedExtent) ↔ c.orderExtent o = some .notFound := by
  rw [check6]
  split <;> simp_all

include hf in
theorem check7_refuses_iff {n : Nat} {e : ExtentEntry} (found : c.orderExtent o = some (.found n e)) :
    c.check7 o = some (.refuse .refusedRights) ↔
      fn.rights ≠ [] ∧ ∀ r ∈ fn.rights, e.hasRight o.channel r = false := by
  rw [check7, hf]
  dsimp only
  rw [found]
  simp [refuseIf_eq_some_iff]

include hf good in
theorem check7_spare_refuses_iff (nowhere : c.orderExtent o = none) (format : fn = .formatTrack) :
    c.check7 o = some (.refuse .refusedRights) ↔
      (c.channelRecord o.channel).management = false ∨ c.inFallback = true := by
  rw [check7, hf, format]
  dsimp only
  rw [nowhere]
  simp only [beq_self_eq_true, if_true, needGood_good good, refuseIf_eq_some_iff]
  cases (c.channelRecord o.channel).management <;> cases c.inFallback <;> decide

end

end Controller

open Controller in
/-- Settles O8: each check on words of good parity, each parse, and the search of the extents. -/
theorem checksTwoToSeven : Obligations.ChecksTwoToSeven := by
  refine ⟨fun c o fn hf good => ?_, fun fn ws x => ?_, fun c lo hi good =>
    ⟨fun n e => extentOf_eq_found_iff good, extentOf_eq_notFound_iff good⟩, fun c o good => ?_⟩
  · refine ⟨check2_refuses_iff hf good, check3_refuses_iff hf good, check4_refuses_iff hf good, check5_refuses_iff,
      check6_refuses_iff, fun n e found => ?_, check7_spare_refuses_iff hf good⟩
    refine (check7_refuses_iff hf found).trans ?_
    cases fn <;> rfl
  · refine ⟨?_, ?_, ?_, ?_, ?_, ?_, ?_, ?_, ?_, ?_⟩
    · rintro (rfl | rfl) <;> exact parseSectors_eq_some_iff
    · rintro rfl; exact parseWrite_eq_some_iff
    · rintro rfl; exact parseTrack_eq_some_iff
    · rintro rfl; exact parseLsa_eq_some_iff
    · intro h
      simp only [List.mem_cons, List.not_mem_nil, or_false] at h
      rcases h with rfl | rfl | rfl | rfl <;> exact parseExtent_eq_some_iff
    · rintro rfl; exact parseLoad_eq_some_iff
    · rintro rfl; exact parseList_eq_some_iff
    · rintro rfl; exact parseTarget_eq_some_iff
    · rintro rfl; exact parseSuspect_eq_some_iff
    · intro h
      simp only [List.mem_cons, List.not_mem_nil, or_false] at h
      rcases h with rfl | rfl | rfl | rfl | rfl | rfl | rfl | rfl <;> rfl
  · refine ⟨fun s n h => orderExtent_of_range h nofun, fun s n d h => orderExtent_of_range h nofun,
      fun l h => orderExtent_of_range h nofun, fun cylinder head fill h => ⟨fun logical => ?_, fun spare => ?_⟩,
      fun n e h there => orderExtent_extent good h there⟩
    · rw [orderExtent_of_range h nofun, Operands.range, if_pos (show cylinder < Config.firstSpareCylinder from logical)]
      rfl
    · rw [orderExtent_of_range h nofun, Operands.range,
        if_neg (show ¬cylinder < Config.firstSpareCylinder from Nat.not_lt.mpr spare)]
      rfl

end Sys2Proof.Machine
end


section
/-! Checks 8 to 11 (O9), and the second checking of an order after a parity fault (O10). -/

namespace Sys2Proof.Machine

namespace Controller

/-! Check 8. -/

theorem check8_exclusive {c : Controller} {o : Order} {n : Nat} {e : ExtentEntry}
    (fn : o.fn = some .write ∨ o.fn = some .formatTrack) (found : c.orderExtent o = some (.found n e))
    (exclusive : e.exclusive = true) : c.check8 o = claimStop o.channel (c.claimAt n) := by
  rw [check8, found]
  rcases fn with fn | fn <;> simp [fn, exclusive]

theorem check8_shared {c : Controller} {o : Order} {n : Nat} {e : ExtentEntry}
    (found : c.orderExtent o = some (.found n e)) (shared : e.exclusive = false) : c.check8 o = none := by
  simp [check8, found, shared]

theorem check8_nowhere {c : Controller} {o : Order} (nowhere : c.orderExtent o = none) : c.check8 o = none := by
  simp [check8, nowhere]

theorem check8_other {c : Controller} {o : Order} (write : o.fn ≠ some .write) (format : o.fn ≠ some .formatTrack) :
    c.check8 o = none := by
  simp [check8, write, format]

/-- The holder of an undisturbed claim passes, the other channel does not. -/
theorem claimStop_held {ch h : Channel} {cl : Claim} (held : cl = .held h ∨ ∃ t, cl = .wanted h t) :
    claimStop ch (some cl) = refuseIf (h != ch) .refusedClaim := by
  rcases held with rfl | ⟨t, rfl⟩ <;> rfl

/-! Checks 9 to 11. -/

theorem check9_refuses_iff {c : Controller} {o : Order} :
    c.check9 o = some (.refuse .refusedDriveOff) ↔ o.isDisk = true ∧ c.drive.targetOn = false := by
  simp [check9, refuseIf_eq_some_iff]

/-- What becomes a record (R28). -/
theorem becomesRecord_iff {c : Controller} {o : Order} : c.becomesRecord o = true ↔
    o.isDisk = true ∨ o.fn = some .commit ∨
      (o.fn = some .sync ∧ ∃ r ∈ c.records, r.channel = o.channel ∧ r.early = true) ∨
      (o.fn = some .claim ∧ ∃ n e, c.orderExtent o = some (.found n e) ∧ e.exclusive = true ∧
        c.claimAt n = some (.held o.channel.other)) := by
  have early : c.hasEarly o.channel = true ↔ ∃ r ∈ c.records, r.channel = o.channel ∧ r.early = true := by
    simp [hasEarly, Record.unwrittenEarly]
  have waits : c.claimWaits o = true ↔ ∃ n e, c.orderExtent o = some (.found n e) ∧ e.exclusive = true ∧
      c.claimAt n = some (.held o.channel.other) := by
    rw [claimWaits]
    split
    · rename_i n e found
      simp only [Bool.and_eq_true, beq_iff_eq]
      exact ⟨fun h => ⟨n, e, found, h⟩, fun ⟨m, d, eq, h⟩ => by rw [found] at eq; cases eq; exact h⟩
    · rename_i none_found
      exact iff_of_false nofun fun ⟨n, e, eq, _⟩ => none_found n e eq
  simp only [becomesRecord, Bool.or_eq_true, Bool.and_eq_true, beq_iff_eq, early, waits, or_assoc]

theorem check10_pending_iff {c : Controller} {o : Order} (good : (c.channelRecord o.channel).w1.good = true) :
    c.check10 o = some (.refuse .commitPending) ↔ o.fn = some .commit ∧ ∃ r ∈ c.records, r.state = .commitWait := by
  simp only [check10, needGood_good good]
  split
  · rename_i h
    simpa [anyIn_eq_true] using h
  · rename_i h
    have out : ¬(o.fn = some .commit ∧ ∃ r ∈ c.records, r.state = .commitWait) := by simpa [anyIn_eq_true] using h
    refine iff_of_false ?_ out
    split
    · exact refuseIf_ne nofun
    · nofun

theorem check10_full_iff {c : Controller} {o : Order} (good : (c.channelRecord o.channel).w1.good = true) :
    c.check10 o = some (.refuse .refusedListFull) ↔
      ¬(o.fn = some .commit ∧ ∃ r ∈ c.records, r.state = .commitWait) ∧ c.becomesRecord o = true ∧
      (16 ≤ c.records.length ∨
        (c.channelRecord o.channel).slotQuota ≤ (c.records.filter (·.channel == o.channel)).length) := by
  simp only [check10, needGood_good good]
  split
  · rename_i h
    have there : o.fn = some .commit ∧ ∃ r ∈ c.records, r.state = .commitWait := by simpa [anyIn_eq_true] using h
    exact iff_of_false nofun fun k => k.1 there
  · rename_i h
    have out : ¬(o.fn = some .commit ∧ ∃ r ∈ c.records, r.state = .commitWait) := by simpa [anyIn_eq_true] using h
    split
    · rename_i b
      simp only [refuseIf_eq_some_iff, Bool.or_eq_true, decide_eq_true_eq]
      exact ⟨fun k => ⟨out, b, k.1⟩, fun k => ⟨k.2.2, trivial⟩⟩
    · rename_i b
      exact iff_of_false nofun fun k => b k.2.1

theorem check11_write_iff {c : Controller} {o : Order} {s n : Nat} {d : List Word}
    (good : (c.channelRecord o.channel).w0.good = true) (fn : o.fn = some .write)
    (ops : o.operands = some (.writeData s n d)) : c.check11 o = some (.refuse .refusedBuffers) ↔
      c.freeBuffers.length < n ∨ (c.channelRecord o.channel).bufferQuota < c.channelBuffers o.channel + n := by
  simp [check11, fn, ops, needGood_good good, refuseIf_eq_some_iff]

theorem check11_read_iff {c : Controller} {o : Order} {s n : Nat}
    (good : (c.channelRecord o.channel).w0.good = true) (fn : o.fn = some .read)
    (ops : o.operands = some (.sectors s n)) : c.check11 o = some (.refuse .refusedBuffers) ↔
      (c.channelRecord o.channel).bufferQuota < n := by
  simp [check11, fn, ops, needGood_good good, refuseIf_eq_some_iff]

end Controller

open Controller in
/-- Settles O9: check 8 by the claim state, checks 9 to 11 by what they count. -/
theorem checksEightToEleven : Obligations.ChecksEightToEleven := by
  refine ⟨fun c o => ⟨fun n e fn found exclusive => ?_, fun n e => check8_shared, check8_nowhere, check8_other⟩,
    fun c o w0 w1 => ⟨check9_refuses_iff, check10_pending_iff w1, ?_, fun s n d => check11_write_iff w0,
      fun s n => check11_read_iff w0⟩⟩
  · rw [check8_exclusive fn found exclusive]
    refine ⟨fun free => by rw [free]; rfl, fun h t held => ?_, fun h w handing => ?_⟩
    · have stop : claimStop o.channel (c.claimAt n) = refuseIf (h != o.channel) .refusedClaim := by
        rcases held with held | held <;> rw [held]
        · exact claimStop_held (.inl rfl)
        · exact claimStop_held (.inr ⟨t, rfl⟩)
      rw [stop]
      exact ⟨fun eq => by simp [refuseIf, eq], fun ne => by simp [refuseIf, ne]⟩
    · rw [handing]
      exact ⟨fun eq => by simp [claimStop, eq], fun ne => by simp [claimStop, ne]⟩
  · rw [check10_full_iff w1, becomesRecord_iff]

namespace Controller

/-! The links through a fallback entry. -/

theorem offerUntested_link (c : Controller) (ch d : Channel) (n : Notice) :
    ((c.offerUntested ch n).port d).link = (c.port d).link := by
  have taken : ∀ (p : Port) (enabled : Bool), (p.takeNotice enabled n).link = p.link := fun p enabled => by
    rw [Port.takeNotice_rest]
  cases ch <;> cases d <;> [exact taken ..; rfl; rfl; exact taken ..]

theorem answerWaiter_link (c : Controller) (ch d : Channel) (e : Nat) (code : AnswerCode) :
    ((c.answerWaiter ch e code).port d).link = (c.port d).link := by
  unfold answerWaiter
  split
  · rfl
  · exact takeOut_link ..

theorem dropClaim_link (c : Controller) (e : Nat) (d : Channel) :
    ((c.dropClaim offerUntested e).port d).link = (c.port d).link := by
  cases h : c.claimAt e with
  | none => rw [dropClaim_of_none h]
  | some cl =>
    rw [dropClaim_of_some h]
    have told : (((c.setClaim e none).tellHolder offerUntested e cl.holder).port d).link = (c.port d).link := by
      cases cl.holder with
      | none => rfl
      | some ch => exact offerUntested_link ..
    cases cl.waiter with
    | none => exact told
    | some ch => exact (answerWaiter_link ..).trans told

theorem dropAllClaims_link (c : Controller) (reason : FallbackReason) (d : Channel) :
    ((c.dropAllClaims reason).port d).link = (c.port d).link := by
  unfold dropAllClaims
  split
  · rfl
  · exact foldl_field (fun c => (c.port d).link) (fun c e => dropClaim_link c e d) _ c

theorem fallbackEntry_link (c : Controller) (reason : FallbackReason) (d : Channel) :
    ((c.fallbackEntry reason).port d).link = (c.port d).link := by
  rw [fallbackEntry_eq, givePendingStop_eq, offerUntested_link, offerUntested_link]
  exact dropAllClaims_link ..

/-! What a fallback entry leaves to the checks. -/

/-- Check 1 is not touched by a parity fault. -/
theorem check1_tableFault (c : Controller) (o : Order) : c.tableFault.check1 o = c.check1 o := by
  rw [check1, check1, (tableFault_sameRest c).level3, tableFault, fallbackEntry_link]

/-- An order that meets a parity fault has passed check 1. -/
theorem check1_of_fault {c : Controller} {o : Order} (h : c.runChecks o = some .fault) : c.check1 o = none := by
  cases h1 : c.check1 o with
  | none => rfl
  | some stop =>
    rw [runChecks_eq, h1, Option.some_or] at h
    cases h
    exact absurd h1 (by rw [check1]; simp [refuseIf_eq_some_iff])

/-- Every range of LSAs lies in entry 0 of the fallback Extent Table (R154). -/
theorem extentOf_fallback {c : Controller} (h : c.tables.active.extents = fallbackExtents) {lo hi : Nat}
    (last : hi ≤ 19199) : c.extentOf (lo, hi) = .found 0 fallbackExtent0 := by
  have good : ∀ e ∈ fallbackExtents.toList, wordsGood e.words = true := by decide
  obtain ⟨valid, first, end_, -⟩ := fallbackExtent0_fields
  rw [extentOf_eq_found_iff (by rw [h]; exact good), h]
  exact ⟨rfl, valid, by omega, by omega, fun m d lt => absurd lt (by omega)⟩

theorem tableFault_extents (c : Controller) : c.tableFault.tables.active.extents = fallbackExtents := by
  rw [tableFault, fallbackEntry_tables]
  rfl

theorem frameTaken_link (c : Controller) (ch d : Channel) : ((c.frameTaken ch).port d).link = (c.port d).link :=
  frameTaken_port_link c ch d

/-- An order that is received comes to the checks. -/
theorem order_received {c : Controller} {o : Order} (accept : Controller → Controller)
    (up : c.linkUp o.channel = true) : c.order o accept = (c.frameTaken o.channel).takeOrder o accept := by
  simp only [linkUp, bne_iff_ne, ne_eq] at up
  simp only [order, beq_iff_eq, up, if_false]

/-- An order that meets a parity fault is checked again, and refused. -/
theorem order_fault_refused {c : Controller} {o : Order} {code : AnswerCode} (accept : Controller → Controller)
    (up : c.linkUp o.channel = true) (h : c.runChecks o = some .fault)
    (again : (c.frameTaken o.channel).tableFault.runChecks o = some (.refuse code)) :
    c.order o accept = (c.frameTaken o.channel).tableFault.answerOrder o code := by
  simp only [order_received accept up, takeOrder, runChecks_frameTaken, h, again]

/-- An order that meets a parity fault is checked again, and accepted. -/
theorem order_fault_accepted {c : Controller} {o : Order} (accept : Controller → Controller)
    (up : c.linkUp o.channel = true) (h : c.runChecks o = some .fault)
    (again : (c.frameTaken o.channel).tableFault.runChecks o = none) :
    c.order o accept = accept (c.frameTaken o.channel).tableFault := by
  simp only [order_received accept up, takeOrder, runChecks_frameTaken, h, again]

/-- Under the fallback tables a WRITE with its fields in range and its tag free fails check 7. -/
theorem runChecks_write_fallback {c : Controller} {ch : Channel} {f : OrderFrame} {start count : Nat} {data : List Word}
    (first : c.tableFault.check1 (.of .write ch f) = none)
    (ops : parseWrite f.words = some (.writeData start count data)) (cls : f.cls ≠ 3#2)
    (free : c.tableFault.tagLive ch f.tag = false) :
    c.tableFault.runChecks (.of .write ch f) = some (.refuse .refusedRights) := by
  obtain ⟨s, n, d, -, ⟨low, high, last⟩, -, eq⟩ := parseWrite_eq_some_iff.mp ops
  obtain ⟨-, -, -, sectors, ceiling, -⟩ := fallbackChannel_fields
  have operands : (Order.of .write ch f).operands = some (.writeData start count data) := ops
  cases eq
  have extent : c.tableFault.orderExtent (.of .write ch f) = some (.found 0 fallbackExtent0) := by
    rw [orderExtent_of_range operands nofun, Operands.range, Option.map_some, extentOf_fallback (tableFault_extents c)]
    omega
  have isSome : (Order.of .write ch f).cls.isNone = false := by
    rw [Bool.eq_false_iff, ne_eq, cls_isNone_iff]
    exact cls
  have good : fallbackChannel.w0.good = true := rfl
  have second : c.tableFault.check2 (.of .write ch f) = none := rfl
  have third : c.tableFault.check3 (.of .write ch f) = none := by
    have fits : ¬8 < n.toNat := by omega
    simp [check3, isSome, operands, tableFault_channelRecord, needGood_good good, sectors, refuseIf, fits]
  have fourth : c.tableFault.check4 (.of .write ch f) = none := by
    have rank : ∀ k : Class, ¬Class.urgent.rank < k.rank := by intro k; cases k <;> decide
    simp [check4, tableFault_channelRecord, needGood_good good, ceiling, refuseIf, Func.isDisk, rank]
  have fifth : c.tableFault.check5 (.of .write ch f) = none := by simp [check5, free, refuseIf]
  have sixth : c.tableFault.check6 (.of .write ch f) = none := by simp [check6, extent]
  have seventh : c.tableFault.check7 (.of .write ch f) = some (.refuse .refusedRights) := by
    rw [check7_refuses_iff (fn := .write) rfl extent]
    exact ⟨nofun, fun r hr => by rw [List.mem_singleton.mp hr]; exact (fallbackExtent0_rights ch).2.1⟩
  simp only [runChecks, checks, List.findSome?_cons, first, second, third, fourth, fifth, sixth, seventh]

theorem endInFault_of_not_faulted {c : Controller} (h : c.drive.state.isFaulted = false) : c.endInFault = c := by
  unfold endInFault
  split
  · rename_i f e
    rw [e] at h
    exact nomatch h
  · rfl

end Controller

open Controller in
/-- Settles O10: the second checking, and what the fallback tables make of a WRITE and of a READ. -/
theorem checkingFaultChecksAgain : Obligations.CheckingFaultChecksAgain := by
  intro s timers
  have fallen : ∀ ch, (s.ctl.frameTaken ch).tableFault.timersReadable = true := fun ch => by
    rw [(tableFault_sameRest _).timersReadable, (frameTaken_sameRest ..).timersReadable]
    exact timers
  have refused : ∀ (i : Instr) (o : Order) (code : AnswerCode), i.order? = some o → s.ctl.linkUp o.channel = true →
      s.ctl.runChecks o = some .fault → (s.ctl.frameTaken o.channel).tableFault.runChecks o = some (.refuse code) →
      Gives i s ((s.ctl.frameTaken o.channel).tableFault.placeAnswer o.channel (.plain o.frame.tag o.code code)) := by
    intro i o code order up fault again
    obtain ⟨accept, e⟩ := effect_of_order order s.ctl
    refine gives_of_effect (e.trans (order_fault_refused accept up fault again)) ?_
    rw [(placeAnswer_sameRest ..).timersReadable]
    exact fallen o.channel
  refine ⟨refused, fun ch f start count data fault up ops cls free => ?_,
    fun ch f start count fault up sound ops again => ?_⟩
  · refine refused (.write ch f) (.of .write ch f) _ rfl up fault (runChecks_write_fallback ?_ ops cls free)
    rw [check1_tableFault]
    exact check1_of_fault (by rw [Order.of_channel, runChecks_frameTaken]; exact fault)
  · have operands : (Order.of .read ch f).operands = some (.sectors start count) := ops
    obtain ⟨_, _, _, -, ⟨low, high, last⟩, eq⟩ := parseSectors_eq_some_iff.mp ops
    have number : (s.ctl.frameTaken ch).tableFault.extentNumber (.of .read ch f) = some 0 := by
      rw [extentNumber, orderExtent_of_range operands nofun, Operands.range, Option.map_some,
        extentOf_fallback (tableFault_extents _)]
      cases eq
      omega
    refine gives_of_effect ((order_fault_accepted _ up fault again).trans ?_) ?_
    · rw [Order.of_channel, acceptRead, operands]
      dsimp only
      rw [acceptDisk, number]
      refine endInFault_of_not_faulted ?_
      rw [(addRecord_sameRest ..).drive, (tableFault_sameRest _).drive, (frameTaken_sameRest ..).drive]
      exact sound
    · rw [(addRecord_sameRest ..).timersReadable]
      exact fallen ch

end Sys2Proof.Machine
end


section
/-! The inquiries (O11), the clearing orders (O24), and the disk orders accepted (O12, O13). -/

namespace Sys2Proof.Machine

namespace Controller

/-! Orders that few checks stop. -/

/-- A function with no operands that is neither a disk nor a management function and makes no record passes with its
tag free (R20): its checks are 1 and 5, and for STATUS the reading of the management privilege. -/
theorem runChecks_plain {c : Controller} {o : Order} {fn : Func} (hf : o.fn = some fn) (first : c.check1 o = none)
    (kind : fn.isManagement = false ∧ fn.isDisk = false) (ops : o.operands = some .none)
    (free : c.tagLive o.channel o.frame.tag = false) (noRecord : c.becomesRecord o = false)
    (status : fn = .status → (c.channelRecord o.channel).w0.good = true) : c.runChecks o = none := by
  obtain ⟨management, disk⟩ := kind
  have isDisk : o.isDisk = false := by rw [isDisk_of_fn hf, disk]
  have nowhere : c.orderExtent o = none := by rw [orderExtent_of_range ops nofun]; rfl
  have write : fn ≠ .write := fun e => by subst e; cases disk
  have read : fn ≠ .read := fun e => by subst e; cases disk
  have format : fn ≠ .formatTrack := fun e => by subst e; cases disk
  have commit : fn ≠ .commit := fun e => by subst e; cases management
  refine List.findSome?_eq_none_iff.mpr fun k hk => ?_
  simp only [checks, List.mem_cons, List.not_mem_nil, or_false] at hk
  rcases hk with rfl | rfl | rfl | rfl | rfl | rfl | rfl | rfl | rfl | rfl | rfl | rfl
  · exact first
  · simp [check2, hf, management]
  · simp [check3, isDisk, ops]
  · simp [check4, isDisk]
  · simp [check5, refuseIf, free]
  · simp [check6, nowhere]
  · simp [check7, hf, nowhere, format]
  · exact check8_nowhere nowhere
  · simp [check9, isDisk, refuseIf]
  · simp [check10, hf, commit, noRecord]
  · rw [check11, hf, ops]
    split <;> simp_all
  · by_cases e : fn = .status
    · simp [statusReading, hf, e, needGood_good (status e)]
    · simp [statusReading, hf, e]

/-- Outside a level-3 reset check 1 stops only what waits out a recovery. -/
theorem check1_eq_none {c : Controller} {o : Order} (level3 : c.level3 = none)
    (h : (c.port o.channel).link ≠ .recovering ∨ o.fn.any (·.waitsOutRecovery) = false) : c.check1 o = none := by
  rcases h with h | h <;> simp [check1, refuseIf, level3, h]

/-- An order that is received and stopped by no check passes. -/
theorem passes_of {c : Controller} {o : Order} (up : c.linkUp o.channel = true) (h : c.runChecks o = none) :
    c.passes o = true := by simp [passes, up, h]

/-- The three inquiries pass with their tag free, whatever the link's state (R36). -/
theorem passes_inquiry {c : Controller} {ch : Channel} {f : OrderFrame} {fn : Func}
    (inquiry : fn = .null ∨ fn = .readSuspect ∨ fn = .status) (level3 : c.level3 = none) (up : c.linkUp ch = true)
    (free : c.tagLive ch f.tag = false) (status : fn = .status → (c.channelRecord ch).w0.good = true) :
    c.passes (.of fn ch f) = true := by
  refine passes_of up (runChecks_plain (fn := fn) rfl (check1_eq_none level3 (.inr ?_)) ?_ ?_ free ?_ status)
  · rcases inquiry with rfl | rfl | rfl <;> rfl
  · rcases inquiry with rfl | rfl | rfl <;> exact ⟨rfl, rfl⟩
  · rcases inquiry with rfl | rfl | rfl <;> rfl
  · rcases inquiry with rfl | rfl | rfl <;> rfl

/-- An accepted order gives what its acceptance makes of the block with the frame taken. -/
theorem accepted_gives {i : Instr} {s : State} {o : Order} {accept : Controller → Controller} {c : Controller}
    (effect : i.effect s.ctl = s.ctl.order o accept) (passes : s.ctl.passes o = true)
    (e : accept (s.ctl.frameTaken o.channel) = c) (timers : c.timersReadable = true) : Gives i s c :=
  gives_of_effect (effect.trans ((order_accepted accept passes).trans e)) timers

theorem frameTaken_timers {c : Controller} (h : c.timersReadable = true) (ch : Channel) :
    (c.frameTaken ch).timersReadable = true := by rwa [(frameTaken_sameRest ..).timersReadable]

/-- What changes nothing that the timers read leaves them readable. -/
theorem SameRest.timers {c d : Controller} (h : c.SameRest d) (t : c.timersReadable = true) :
    d.timersReadable = true := by rwa [h.timersReadable]

/-! The taking of a frame changes no more of a port than what was being received. -/

theorem frameTaken_port (c : Controller) (ch d : Channel) :
    (c.frameTaken ch).port d = { c.port d with inbound := ((c.frameTaken ch).port d).inbound } := by
  cases ch <;> cases d <;> rfl

@[simp] theorem frameTaken_ready (c : Controller) (ch d : Channel) :
    ((c.frameTaken ch).port d).ready = (c.port d).ready := by rw [frameTaken_port]

@[simp] theorem frameTaken_notices (c : Controller) (ch d : Channel) :
    ((c.frameTaken ch).port d).notices = (c.port d).notices := by rw [frameTaken_port]

@[simp] theorem frameTaken_overflow (c : Controller) (ch d : Channel) :
    ((c.frameTaken ch).port d).overflow = (c.port d).overflow := by rw [frameTaken_port]

@[simp] theorem frameTaken_errorCount (c : Controller) (ch d : Channel) :
    ((c.frameTaken ch).port d).errorCount = (c.port d).errorCount := by rw [frameTaken_port]

/-! The status block. -/

theorem mem_claimEntries {c : Controller} {x : ClaimEntry} : x ∈ c.claimEntries ↔
    ∃ cl, c.claimAt x.extent = some cl ∧ x.state = cl.name ∧ x.holder = cl.holder ∧ x.waiter = cl.waiter := by
  simp only [claimEntries, List.mem_filterMap, List.mem_range, Option.map_eq_some_iff]
  constructor
  · rintro ⟨e, -, cl, h, rfl⟩
    exact ⟨cl, h, rfl, rfl, rfl⟩
  · rintro ⟨cl, h, state, holder, waiter⟩
    refine ⟨x.extent, ?_, cl, h, by rw [← state, ← holder, ← waiter]⟩
    by_contra out
    simp [claimAt, out] at h

/-- A claim state has its entry in the status block. -/
theorem claimEntries_of_claimAt {c : Controller} {e : Nat} {cl : Claim} (h : c.claimAt e = some cl) :
    ∃ x ∈ c.claimEntries, x.extent = e :=
  ⟨{ extent := e, state := cl.name, holder := cl.holder, waiter := cl.waiter },
    mem_claimEntries.mpr ⟨cl, h, rfl, rfl, rfl⟩, rfl⟩

/-- The target agrees with the state (R120). -/
theorem targetPending_eq_false_iff (d : Sequencer) : d.targetPending = false ↔
    if d.targetOn then d.state = .ready ∨ d.state = .parked ∨ d.state = .unloading ∧ d.unloadIdle = true
    else d.state = .stopped ∨ d.state = .cooling := by
  unfold Sequencer.targetPending
  split <;> simp <;> tauto

/-- The free buffers are those on no record's list. -/
theorem freeBuffers_eq (c : Controller) :
    c.freeBuffers = (List.range 12).filter fun i => c.records.all fun r => !r.buffers.contains i := by
  refine List.filter_congr fun i _ => ?_
  rw [Bool.eq_iff_iff]
  simp [heldBuffers]

end Controller

open Controller in
/-- Settles O11: an inquiry passes the checks, and the status block is read off the controller. -/
theorem inquiriesAreAnsweredAtOnce : Obligations.InquiriesAreAnsweredAtOnce := by
  refine ⟨fun ch f s level3 up free timers => ⟨?_, ?_⟩, fun ch f s level3 up free good timers => ?_⟩
  · refine accepted_gives (Eq.refl _) (passes_inquiry (.inl rfl) level3 up free nofun) (Eq.refl _) ?_
    exact (placeAnswer_sameRest ..).timers (frameTaken_timers timers _)
  · refine accepted_gives (Eq.refl _) (passes_inquiry (.inr (.inl rfl)) level3 up free nofun) (Eq.refl _) ?_
    exact (placeAnswer_sameRest ..).timers (frameTaken_timers timers _)
  · have passes := passes_inquiry (.inr (.inr rfl)) level3 up free fun _ => good
    refine ⟨(s.ctl.frameTaken ch).statusBlock ch, ?_, rfl, frameTaken_link _ ch .a, frameTaken_link _ ch .b,
      frameTaken_errorCount .., frameTaken_overflow .., rfl, rfl, rfl, rfl, rfl, rfl,
      targetPending_eq_false_iff _, rfl, rfl, rfl, rfl, rfl, congrArg List.length (freeBuffers_eq s.ctl), rfl, rfl, rfl,
      rfl, rfl, rfl, rfl, rfl, fun x => mem_claimEntries.mp, fun e cl => claimEntries_of_claimAt⟩
    refine accepted_gives (Eq.refl _) passes (Eq.refl _) ?_
    exact ((placeAnswer_sameRest ..).trans (modPort_sameRest ..)).timers (frameTaken_timers timers _)

namespace Controller

/-! Disk orders. -/

/-- The extent of an order that covers a range is the one that contains it. -/
theorem orderExtent_of_found {c : Controller} {o : Order} {ops : Operands} {range : Nat × Nat} {n : Nat}
    {e : ExtentEntry} (h : o.operands = some ops) (named : ∀ n, ops ≠ .extent n) (covers : ops.range = some range)
    (found : c.extentOf range = .found n e) : c.orderExtent o = some (.found n e) := by
  rw [orderExtent_of_range h named, covers, Option.map_some, found]

theorem extentNumber_of_found {c : Controller} {o : Order} {n : Nat} {e : ExtentEntry}
    (found : c.orderExtent o = some (.found n e)) : c.extentNumber o = some n := by rw [extentNumber, found]

/-- What a disk order other than WRITE makes of the block outside FAULTED (R30). -/
theorem acceptDisk_eq {c : Controller} {fn : Func} {ch : Channel} {f : OrderFrame} {job : Job} {extent : Option Nat}
    (number : c.extentNumber (.of fn ch f) = extent) (sound : c.drive.state.isFaulted = false) :
    c.acceptDisk (.of fn ch f) job = c.addRecord
      { c.recordFor ch f job .waiting with cls := Class.ofNat? f.cls.toNat, extent := extent } := by
  rw [acceptDisk, endInFault_of_not_faulted (c := c.addRecord _) sound, number]
  rfl

/-- The range of a FORMAT-TRACK order: its track, where that is logical. -/
theorem track_range_logical {cylinder head : Nat} (fill : Word) (h : cylinder < 400) :
    (Operands.track cylinder head fill).range = some (cylinder * 48 + head * 24, cylinder * 48 + head * 24 + 23) :=
  if_pos h

theorem track_range_spare {cylinder head : Nat} (fill : Word) (h : 400 ≤ cylinder) :
    (Operands.track cylinder head fill).range = none := if_neg (Nat.not_lt.mpr h)

/-- An accepted disk order of the frame taken gives its WAITING record. -/
theorem disk_gives {i : Instr} {s : State} {fn : Func} {ch : Channel} {f : OrderFrame} {job : Job}
    {accept : Controller → Controller} {extent : Option Nat} (timers : s.ctl.timersReadable = true)
    (sound : s.ctl.drive.state.isFaulted = false) (effect : i.effect s.ctl = s.ctl.order (.of fn ch f) accept)
    (passes : s.ctl.passes (.of fn ch f) = true)
    (accepts : accept (s.ctl.frameTaken ch) = (s.ctl.frameTaken ch).acceptDisk (.of fn ch f) job)
    (number : s.ctl.extentNumber (.of fn ch f) = extent) :
    Gives i s ((s.ctl.frameTaken ch).addRecord { (s.ctl.frameTaken ch).recordFor ch f job .waiting with
      cls := Class.ofNat? f.cls.toNat, extent := extent }) :=
  accepted_gives effect passes (accepts.trans (acceptDisk_eq (c := s.ctl.frameTaken ch) number sound))
    ((addRecord_sameRest ..).timers (frameTaken_timers timers ch))

end Controller

open Controller in
/-- Settles O12: the fields of each disk order, and the extent that contains its range. -/
theorem diskOrderBecomesWaitingRecord : Obligations.DiskOrderBecomesWaitingRecord := by
  intro ch f s n e timers sound
  refine ⟨fun start count passes ops found => ?_, fun start count passes ops found => ?_,
    fun lsa passes ops found => ?_, fun cylinder head fill passes ops => ⟨fun logical found => ?_, fun spare => ?_⟩⟩
  · have operands : (Order.of .read ch f).operands = some (.sectors start count) := ops
    exact disk_gives (i := .read ch f) timers sound (Eq.refl _) passes (by rw [acceptRead, operands])
      (extentNumber_of_found (orderExtent_of_found operands nofun rfl found))
  · have operands : (Order.of .verify ch f).operands = some (.sectors start count) := ops
    exact disk_gives (i := .verify ch f) timers sound (Eq.refl _) passes (by rw [acceptVerify, operands])
      (extentNumber_of_found (orderExtent_of_found operands nofun rfl found))
  · have operands : (Order.of .seek ch f).operands = some (.lsa lsa) := ops
    exact disk_gives (i := .seek ch f) timers sound (Eq.refl _) passes (by rw [acceptSeek, operands])
      (extentNumber_of_found (orderExtent_of_found operands nofun rfl found))
  · have operands : (Order.of .formatTrack ch f).operands = some (.track cylinder head fill) := ops
    exact disk_gives (i := .formatTrack ch f) timers sound (Eq.refl _) passes (by rw [acceptFormat, operands])
      (extentNumber_of_found (orderExtent_of_found operands nofun (track_range_logical fill logical) found))
  · have operands : (Order.of .formatTrack ch f).operands = some (.track cylinder head fill) := ops
    refine disk_gives (i := .formatTrack ch f) timers sound (Eq.refl _) passes (by rw [acceptFormat, operands]) ?_
    rw [extentNumber, orderExtent_of_range operands nofun, track_range_spare fill spare, Option.map_none]

end Sys2Proof.Machine
end


section
/-! The buffers of a WRITE (O13). -/

namespace Sys2Proof.Machine

namespace Controller

/-! The words of a buffer. -/

theorem setBuffer_bufferWords_self (c : Controller) {b : Nat} (h : b < 12) (ws : List Word) :
    (c.setBuffer b ws).bufferWords b = ws := by simp [bufferWords, h]

theorem setBuffer_bufferWords_of_ne (c : Controller) {b d : Nat} (h : b ≠ d) (ws : List Word) :
    (c.setBuffer b ws).bufferWords d = c.bufferWords d := by simp [bufferWords, h]

/-- A buffer that is not filled keeps its words. -/
theorem fill_bufferWords_of_notMem (data : List Word) {b : Nat} : ∀ (held : List Nat) (k : Nat) (c : Controller),
    b ∉ held →
    ((held.zipIdx k).foldl (fun c p => c.setBuffer p.1 (sectorWords data p.2)) c).bufferWords b = c.bufferWords b
  | [], _, _, _ => rfl
  | d :: held, k, c, h => by
    obtain ⟨ne, out⟩ := not_or.mp (mt List.mem_cons.mpr h)
    rw [List.zipIdx_cons, List.foldl_cons, fill_bufferWords_of_notMem data held (k + 1) _ out]
    exact setBuffer_bufferWords_of_ne c (Ne.symm ne) _

/-- The i-th of the buffers filled holds the i-th sector of the data. -/
theorem fill_bufferWords (data : List Word) {b : Nat} : ∀ (held : List Nat) (k i : Nat) (c : Controller),
    held.Nodup → (∀ d ∈ held, d < 12) → held[i]? = some b →
    ((held.zipIdx k).foldl (fun c p => c.setBuffer p.1 (sectorWords data p.2)) c).bufferWords b =
      sectorWords data (k + i)
  | [], _, _, _, _, _, h => by simp at h
  | d :: held, k, 0, c, nodup, low, h => by
    have eq : d = b := by simpa using h
    subst eq
    rw [List.zipIdx_cons, List.foldl_cons, fill_bufferWords_of_notMem data held _ _ (List.nodup_cons.mp nodup).1]
    exact setBuffer_bufferWords_self c (low d (List.mem_cons_self ..)) _
  | d :: held, k, i + 1, c, nodup, low, h => by
    rw [List.zipIdx_cons, List.foldl_cons, fill_bufferWords data held (k + 1) i _ (List.nodup_cons.mp nodup).2
      (fun x hx => low x (List.mem_cons_of_mem _ hx)) (by simpa using h)]
    congr 1
    omega

theorem fillBuffers_tables (c : Controller) (held : List Nat) (data : List Word) :
    (c.fillBuffers held data).tables = c.tables := foldl_field (·.tables) (fun _ _ => setBuffer_tables ..) _ c

theorem fillBuffers_drive (c : Controller) (held : List Nat) (data : List Word) :
    (c.fillBuffers held data).drive = c.drive := foldl_field (·.drive) (fun _ _ => setBuffer_drive ..) _ c

/-! The acceptance of a WRITE. -/

/-- Check 11 has found the buffers of an accepted WRITE. -/
theorem buffers_of_runChecks {c : Controller} {o : Order} {start count : Nat} {data : List Word}
    (h : c.runChecks o = none) (fn : o.fn = some .write) (ops : o.operands = some (.writeData start count data)) :
    count ≤ c.freeBuffers.length := by
  have h11 : c.check11 o = none := runChecks_eq_none h (by simp [checks])
  by_contra few
  have few : c.freeBuffers.length < count := Nat.not_le.mp few
  simp only [check11, fn, ops, needGood, refuseIf, few, decide_true, Bool.true_or, if_true] at h11
  split at h11 <;> exact nomatch h11

/-- The three conditions of the early answer, in the extent found (R105). -/
theorem answersEarly_of_found {c : Controller} {o : Order} {n : Nat} {e : ExtentEntry}
    (found : c.orderExtent o = some (.found n e)) : c.answersEarly o =
      (e.writeBehind && (c.channelRecord o.channel).writeBehindPermitted && (c.work.deferred.get o.channel).isNone) := by
  rw [answersEarly, found]

section

variable {c : Controller} {ch : Channel} {f : OrderFrame} {n start count : Nat} {data : List Word}

/-- The record of a WRITE, as its acceptance makes it (R30, R43). -/
def writeRecord (c : Controller) (ch : Channel) (f : OrderFrame) (start count n : Nat) (state : RecState)
    (early : Bool) : Record :=
  { c.recordFor ch f (.write start count) state with
    cls := Class.ofNat? f.cls.toNat, extent := some n, buffers := c.freeBuffers.take count, early := early }

/-- A WRITE answered early becomes LINGERING (R105). -/
theorem acceptWrite_early (number : c.extentNumber (.of .write ch f) = some n)
    (sound : c.drive.state.isFaulted = false) (early : c.answersEarly (.of .write ch f) = true) :
    c.acceptWrite (.of .write ch f) start count data =
      ((c.fillBuffers (c.freeBuffers.take count) data).addRecord
        (c.writeRecord ch f start count n .lingering true)).placeAnswer ch
          { answerTo f .write .done with early := true } := by
  rw [acceptWrite, number, early]
  refine endInFault_of_not_faulted ?_
  rw [if_pos rfl, (placeAnswer_sameRest ..).drive, (addRecord_sameRest ..).drive, fillBuffers_drive]
  exact sound

/-- A WRITE not answered early becomes WAITING. -/
theorem acceptWrite_waiting (number : c.extentNumber (.of .write ch f) = some n)
    (sound : c.drive.state.isFaulted = false) (early : c.answersEarly (.of .write ch f) = false) :
    c.acceptWrite (.of .write ch f) start count data =
      (c.fillBuffers (c.freeBuffers.take count) data).addRecord
        (c.writeRecord ch f start count n .waiting false) := by
  rw [acceptWrite, number, early]
  refine endInFault_of_not_faulted ?_
  rw [if_neg Bool.false_ne_true, (addRecord_sameRest ..).drive, fillBuffers_drive]
  exact sound

end

end Controller

open Controller in
/-- Settles O13: check 11 has found the buffers, each takes its sector, and the three conditions decide the answer. -/
theorem writeWaitsOrIsAnsweredEarly : Obligations.WriteWaitsOrIsAnsweredEarly := by
  intro ch f s n e start count data timers sound passes ops found c held filled record
  have operands : (Order.of .write ch f).operands = some (.writeData start count data) := ops
  have extent : c.orderExtent (.of .write ch f) = some (.found n e) := orderExtent_of_found operands nofun rfl found
  have number := extentNumber_of_found extent
  have run : s.ctl.runChecks (.of .write ch f) = none := by
    simpa using (Bool.and_eq_true_iff.mp passes).2
  have accepts : c.acceptWriteOrder (.of .write ch f) = c.acceptWrite (.of .write ch f) start count data := by
    rw [acceptWriteOrder, operands]
  have filledTimers : filled.timersReadable = true := by
    rw [timersReadable, fillBuffers_tables]
    exact timers
  have early : c.answersEarly (.of .write ch f) = (e.writeBehind &&
      (s.ctl.channelRecord ch).writeBehindPermitted && (s.ctl.work.deferred.get ch).isNone) :=
    answersEarly_of_found extent
  have low : ∀ b ∈ held, b < 12 := fun b hb => (mem_freeBuffers.mp (List.mem_of_mem_take hb)).1
  have nodup : held.Nodup := (freeBuffers_nodup s.ctl).sublist (List.take_sublist ..)
  refine ⟨?_, fun i b hb => ?_, fun b hb => fill_bufferWords_of_notMem data held 0 c hb,
    fun behind permitted clear => ?_, fun waits => ?_⟩
  · exact List.length_take_of_le (buffers_of_runChecks run rfl operands)
  · rw [show filled.bufferWords b = _ from fill_bufferWords data held 0 i c nodup low hb, Nat.zero_add]
  · have yes : c.answersEarly (.of .write ch f) = true := by
      rw [early, behind, permitted, clear]
      rfl
    refine accepted_gives (i := .write ch f) (Eq.refl _) passes (accepts.trans (acceptWrite_early number sound yes)) ?_
    exact ((addRecord_sameRest ..).trans (placeAnswer_sameRest ..)).timers filledTimers
  · have no : c.answersEarly (.of .write ch f) = false := by
      rw [early]
      rcases waits with behind | permitted | deferred
      · simp [behind]
      · simp [permitted]
      · simp [Option.isSome_iff_ne_none.mpr deferred]
    refine accepted_gives (i := .write ch f) (Eq.refl _) passes (accepts.trans (acceptWrite_waiting number sound no)) ?_
    exact (addRecord_sameRest ..).timers filledTimers

end Sys2Proof.Machine
end


section
/-! SUPPORT. Several records that leave one after the other: what their leaving makes of the block, in one equation
(R42, R173, R175). -/

namespace Sys2Proof.Machine

/-- The port of a channel after these records have left: those of the channel took their answers there. -/
def Port.leaves (p : Port) (ch : Channel) (l : List Record) (ans : Record → Option Answer) : Port :=
  l.foldl (fun p r => if r.channel = ch then p.leaveWith r.seq (ans r) else p) p

namespace Port

theorem leaves_cons (p : Port) (ch : Channel) (r : Record) (l : List Record) (ans : Record → Option Answer) :
    p.leaves ch (r :: l) ans = (if r.channel = ch then p.leaveWith r.seq (ans r) else p).leaves ch l ans := rfl

/-- What no leaving record touches, several do not touch. -/
theorem leaves_field {β : Type} (get : Port → β)
    (h : ∀ (p : Port) (seq : Nat) (ans : Option Answer), get (p.leaveWith seq ans) = get p) (ch : Channel)
    (ans : Record → Option Answer) : ∀ (l : List Record) (p : Port), get (p.leaves ch l ans) = get p
  | [], _ => rfl
  | r :: l, p => by
    rw [leaves_cons]
    refine (leaves_field get h ch ans l _).trans ?_
    split
    · exact h ..
    · rfl

@[simp] theorem leaves_notices (p : Port) (ch : Channel) (l : List Record) (ans : Record → Option Answer) :
    (p.leaves ch l ans).notices = p.notices := leaves_field (·.notices) leaveWith_notices ch ans l p

@[simp] theorem leaves_link (p : Port) (ch : Channel) (l : List Record) (ans : Record → Option Answer) :
    (p.leaves ch l ans).link = p.link := leaves_field (·.link) leaveWith_link ch ans l p

@[simp] theorem leaves_overflow (p : Port) (ch : Channel) (l : List Record) (ans : Record → Option Answer) :
    (p.leaves ch l ans).overflow = p.overflow := leaves_field (·.overflow) leaveWith_overflow ch ans l p

@[simp] theorem leaves_escalation (p : Port) (ch : Channel) (l : List Record) (ans : Record → Option Answer) :
    (p.leaves ch l ans).escalation = p.escalation := leaves_field (·.escalation) leaveWith_escalation ch ans l p

@[simp] theorem leaves_errorCount (p : Port) (ch : Channel) (l : List Record) (ans : Record → Option Answer) :
    (p.leaves ch l ans).errorCount = p.errorCount := leaves_field (·.errorCount) leaveWith_errorCount ch ans l p

/-- The answers of the channel's records join its ready answers in the order of the leaving. -/
theorem leaves_ready (ch : Channel) (ans : Record → Option Answer) : ∀ (l : List Record) (p : Port),
    (p.leaves ch l ans).ready = p.ready ++ (l.filter (·.channel == ch)).filterMap ans
  | [], p => (List.append_nil _).symm
  | r :: l, p => by
    rw [leaves_cons]
    refine (leaves_ready ch ans l _).trans ?_
    by_cases h : r.channel = ch
    · rw [if_pos h, leaveWith_ready, List.filter_cons_of_pos (by simpa using h), List.append_assoc]
      cases e : ans r with
      | none => simp [e]
      | some a => simp [e]
    · rw [if_neg h, List.filter_cons_of_neg (by simpa using h)]

/-- The Delivery Queue loses the channel's records. -/
theorem leaves_delivery (ch : Channel) (ans : Record → Option Answer) : ∀ (l : List Record) (p : Port),
    (p.leaves ch l ans).delivery = p.delivery.filter fun n => l.all fun r => !(r.channel == ch && r.seq == n)
  | [], p => by simp [leaves]
  | r :: l, p => by
    rw [leaves_cons]
    refine (leaves_delivery ch ans l _).trans ?_
    by_cases h : r.channel = ch
    · rw [if_pos h, leaveWith_delivery, List.filter_filter]
      refine List.filter_congr fun n _ => ?_
      simp [h, bne, Bool.and_comm, Bool.beq_comm (a := n)]
    · have own : (r.channel == ch) = false := by simpa using h
      simp only [if_neg h, List.all_cons, own, Bool.false_and, Bool.not_false, Bool.true_and]

/-- A port of which no record leaves is not touched. -/
theorem leaves_of_none {ch : Channel} {ans : Record → Option Answer} : ∀ {l : List Record} (p : Port),
    (∀ r ∈ l, r.channel ≠ ch) → p.leaves ch l ans = p
  | [], _, _ => rfl
  | r :: l, p, h => by
    rw [leaves_cons, if_neg (h r (List.mem_cons_self ..))]
    exact leaves_of_none p fun q hq => h q (List.mem_cons_of_mem _ hq)

end Port

namespace Controller

/-- The block after these records have left, each with its answer, if it has one. -/
def takenOut (c : Controller) (l : List Record) (ans : Record → Option Answer) : Controller :=
  { c with
    ports := { a := c.ports.a.leaves .a l ans, b := c.ports.b.leaves .b l ans }
    work := { c.work with
      records := c.records.filter fun r => !l.contains r
      commitPending := c.work.commitPending && l.all (·.state != .commitWait) } }

@[simp] theorem takenOut_port (c : Controller) (l : List Record) (ans : Record → Option Answer) (ch : Channel) :
    (c.takenOut l ans).port ch = (c.port ch).leaves ch l ans := by cases ch <;> rfl

@[simp] theorem takenOut_claims (c : Controller) (l : List Record) (ans : Record → Option Answer) :
    (c.takenOut l ans).claims = c.claims := rfl

@[simp] theorem takenOut_tables (c : Controller) (l : List Record) (ans : Record → Option Answer) :
    (c.takenOut l ans).tables = c.tables := rfl

@[simp] theorem takenOut_deferred (c : Controller) (l : List Record) (ans : Record → Option Answer) :
    (c.takenOut l ans).work.deferred = c.work.deferred := rfl

theorem takenOut_records (c : Controller) (l : List Record) (ans : Record → Option Answer) :
    (c.takenOut l ans).records = c.records.filter fun r => !l.contains r := rfl

theorem takenOut_sameRest (c : Controller) (l : List Record) (ans : Record → Option Answer) :
    c.SameRest (c.takenOut l ans) := by
  constructor <;> exact Eq.refl _

/-- The records that a condition picks leave the others. -/
theorem takenOut_filter_records (c : Controller) (p : Record → Bool) (ans : Record → Option Answer) :
    (c.takenOut (c.records.filter p) ans).records = c.records.filter fun r => !p r := by
  refine List.filter_congr fun r hr => ?_
  simp [hr]

/-- One record is taken out, and then the others. -/
theorem takenOut_cons {c : Controller} (s : c.sequenceSound) {r : Record} (hr : r ∈ c.records) (l : List Record)
    (ans : Record → Option Answer) : (c.takeOut r.seq (ans r)).takenOut l ans = c.takenOut (r :: l) ans := by
  have ports : ∀ ch, ((c.takeOut r.seq (ans r)).takenOut l ans).port ch = (c.takenOut (r :: l) ans).port ch := fun ch => by
    rw [takenOut_port, takenOut_port, Port.leaves_cons]
    by_cases h : r.channel = ch
    · rw [if_pos h, ← h, takeOut_port_self (s.findRecord hr)]
    · rw [if_neg h, takeOut_port_of_ne (s.findRecord hr) _ (Ne.symm h)]
  have records : ((c.takeOut r.seq (ans r)).takenOut l ans).records = (c.takenOut (r :: l) ans).records := by
    rw [takenOut_records, takeOut_records, takenOut_records, List.filter_filter]
    refine List.filter_congr fun q hq => ?_
    have same : (q.seq != r.seq) = !(q == r) := by
      have iff : q.seq = r.seq ↔ q = r := ⟨s.eq_of_seq hq hr, congrArg _⟩
      rw [Bool.eq_iff_iff]
      simp [iff]
    rw [same, List.contains_cons, Bool.not_or, Bool.and_comm]
  have pending : ((c.takeOut r.seq (ans r)).takenOut l ans).work.commitPending =
      (c.takenOut (r :: l) ans).work.commitPending := by
    simp only [takenOut, takeOut_commitPending (s.findRecord hr), List.all_cons, Bool.and_assoc]
  rw [takeOut_of_found (s.findRecord hr)] at ports records pending ⊢
  exact congrArg₂ (fun (p : PerChannel Port) (w : WorkList) => { c with ports := p, work := w })
    (congrArg₂ PerChannel.mk (ports .a) (ports .b))
    (congrArg₂ (fun (rs : List Record) (b : Bool) => { c.work with records := rs, commitPending := b }) records pending)

theorem takenOut_nil (c : Controller) (ans : Record → Option Answer) : c.takenOut [] ans = c := by
  simp only [takenOut, Port.leaves, List.foldl_nil, List.contains_nil, Bool.not_false, List.filter_true, List.all_nil,
    Bool.and_true]
  rfl

/-- Steps that each take out their record take out all of them. -/
theorem foldl_takeOut {ans : Record → Option Answer} {f : Controller → Record → Controller} :
    ∀ (l : List Record) {c : Controller}, c.sequenceSound → l.Nodup → (∀ r ∈ l, r ∈ c.records) →
      (∀ r ∈ l, ∀ d : Controller, d.findRecord r.seq = some r → d.work.deferred = c.work.deferred →
        f d r = d.takeOut r.seq (ans r)) →
      l.foldl f c = c.takenOut l ans
  | [], c, _, _, _, _ => (takenOut_nil c ans).symm
  | r :: l, c, s, nodup, there, step => by
    have hr := there r (List.mem_cons_self ..)
    obtain ⟨out, nodup⟩ := List.nodup_cons.mp nodup
    rw [List.foldl_cons, step r (List.mem_cons_self ..) c (s.findRecord hr) rfl, ← takenOut_cons s hr]
    refine foldl_takeOut l (takeOut_sequenceSound s _ _) nodup (fun q hq => ?_) fun q hq d found kept => ?_
    · have ne : q.seq ≠ r.seq := fun e =>
        out (s.eq_of_seq (there q (List.mem_cons_of_mem _ hq)) hr e ▸ hq)
      rw [takeOut_records]
      exact List.mem_filter.mpr ⟨there q (List.mem_cons_of_mem _ hq), by simpa using ne⟩
    · exact step q (List.mem_cons_of_mem _ hq) d found (kept.trans (takeOut_deferred ..))

/-- The records in acceptance order are different. -/
theorem sequenceSound.records_nodup {c : Controller} (s : c.sequenceSound) : c.records.Nodup :=
  List.Nodup.of_map _ s.nodup

/-- Steps over the records that a condition picks. -/
theorem foldl_takeOut_filter {c : Controller} (s : c.sequenceSound) {p : Record → Bool}
    {ans : Record → Option Answer} {f : Controller → Record → Controller}
    (step : ∀ r, p r = true → ∀ d : Controller, d.findRecord r.seq = some r → d.work.deferred = c.work.deferred →
      f d r = d.takeOut r.seq (ans r)) :
    (c.records.filter p).foldl f c = c.takenOut (c.records.filter p) ans :=
  foldl_takeOut _ s (s.records_nodup.filter _) (fun _ hr => (List.mem_filter.mp hr).1) fun r hr =>
    step r (List.mem_filter.mp hr).2

/-- The ready answers of a channel after the records that a condition picks have been answered. -/
theorem takenOut_ready (c : Controller) (p : Record → Bool) (ans : Record → Answer) (ch : Channel) :
    ((c.takenOut (c.records.filter p) fun r => some (ans r)).port ch).ready =
      (c.port ch).ready ++ ((c.records.filter p).filter (·.channel == ch)).map ans := by
  rw [takenOut_port, Port.leaves_ready, List.filterMap_eq_map']

/-- The same where all of them are the channel's. -/
theorem takenOut_ready_self {c : Controller} {p : Record → Bool} {ch : Channel} (ans : Record → Answer)
    (own : ∀ r, p r = true → r.channel = ch) :
    ((c.takenOut (c.records.filter p) fun r => some (ans r)).port ch).ready =
      (c.port ch).ready ++ (c.records.filter p).map ans := by
  rw [takenOut_ready, List.filter_eq_self.mpr]
  exact fun r hr => by simpa using own r (List.mem_filter.mp hr).2

/-- The other channel's port is not touched. -/
theorem takenOut_port_of_ne {c : Controller} {p : Record → Bool} {ch d : Channel} {ans : Record → Option Answer}
    (own : ∀ r, p r = true → r.channel = ch) (ne : d ≠ ch) :
    (c.takenOut (c.records.filter p) ans).port d = c.port d := by
  rw [takenOut_port]
  exact Port.leaves_of_none _ fun r hr e => ne (e ▸ own r (List.mem_filter.mp hr).2)

end Controller

end Sys2Proof.Machine
end


section
/-! SYNC and its completion (O14). -/

namespace Sys2Proof.Machine

namespace Controller

/-- The complete SYNC-WAIT records leave together, each with the channel's deferred error record (R115). -/
theorem completeSyncs_eq {c : Controller} (s : c.sequenceSound) (ch : Channel) :
    c.completeSyncs ch =
      c.takenOut (c.records.filter (c.syncComplete ch)) fun r => some (c.syncAnswer ch r.tag) :=
  foldl_takeOut_filter s fun r _ d _ kept => by rw [syncAnswer, kept]; rfl

/-- A complete SYNC-WAIT record clears no COMMIT-pending mark. -/
theorem completeSyncs_commitPending {c : Controller} (s : c.sequenceSound) (ch : Channel) :
    (c.completeSyncs ch).work.commitPending = c.work.commitPending := by
  have none_waits : (c.records.filter (c.syncComplete ch)).all (·.state != .commitWait) = true :=
    List.all_eq_true.mpr fun r hr => by
      rw [(syncComplete_state (List.mem_filter.mp hr).2).2]
      rfl
  rw [completeSyncs_eq s, takenOut, none_waits, Bool.and_true]

/-- A SYNC of a channel with no unwritten early write passes with its tag free (R20, R28). -/
theorem passes_sync {c : Controller} {ch : Channel} {f : OrderFrame} (level3 : c.level3 = none)
    (attached : (c.port ch).link = .attached) (free : c.tagLive ch f.tag = false) (none_early : c.hasEarly ch = false) :
    c.passes (.of .sync ch f) = true := by
  have up : c.linkUp ch = true := by simp [linkUp, attached]
  have stays : (c.port ch).link ≠ .recovering := by simp [attached]
  have noRecord : c.becomesRecord (.of .sync ch f) = false := by
    simp [becomesRecord, Func.isDisk, none_early]
  exact passes_of up
    (runChecks_plain (fn := .sync) rfl (check1_eq_none level3 (.inl stays)) ⟨rfl, rfl⟩ rfl free noRecord nofun)

end Controller

open Controller in
/-- Settles O14: a SYNC is answered or waits by `hasEarly`, and its completion is the leaving of the complete ones. -/
theorem syncAwaitsEarlyWrites : Obligations.SyncAwaitsEarlyWrites := by
  intro ch f s timers early answer
  refine ⟨fun level3 attached free none_early => ?_, fun passes some_early => ?_, ?_, fun sound => ?_⟩
  · have none_early : s.ctl.hasEarly ch = false := none_early
    refine accepted_gives (i := .sync ch f) (Eq.refl _) (passes_sync level3 attached free none_early) ?_
      ((placeAnswer_sameRest ..).timers (frameTaken_timers timers ch))
    exact if_neg (ne_true_of_eq_false (show (s.ctl.frameTaken ch).hasEarly ch = false from none_early))
  · refine accepted_gives (i := .sync ch f) (Eq.refl _) passes ?_
      (((setRecords_sameRest ..).trans (addRecord_sameRest ..)).timers (frameTaken_timers timers ch))
    exact if_pos (show (s.ctl.frameTaken ch).hasEarly ch = true from some_early)
  · exact gives_of_effect (Eq.refl _) ((completeSyncs_sameRest ..).timers timers)
  · intro complete c
    have own : ∀ r, s.ctl.syncComplete ch r = true → r.channel = ch := fun r h => (syncComplete_state h).1
    have same : complete = s.ctl.syncComplete ch := by
      funext r
      simp only [complete, syncComplete, early, List.all_eq_not_any_not, Bool.not_not]
      rfl
    have leaving : c = s.ctl.takenOut (s.ctl.records.filter complete) fun r => some (answer r.tag) := by
      rw [same]
      exact completeSyncs_eq sound ch
    have pending : c.work.commitPending = s.ctl.work.commitPending := completeSyncs_commitPending sound ch
    rw [← same] at own
    have rest : s.ctl.SameRest c := completeSyncs_sameRest ..
    refine ⟨?_, ?_, ?_, ?_, ?_, pending, ?_, ?_, ?_, rest.drive, rest.media⟩
    · rw [leaving, takenOut_filter_records]
    · rw [leaving, takenOut_ready_self _ own]
    · rw [leaving, takenOut_port, Port.leaves_notices]
    · rw [leaving]
      exact takenOut_port_of_ne own (channel_other_ne ch)
    all_goals rw [leaving]; rfl

end Sys2Proof.Machine
end


section
/-! The ownership orders (O15 to O17). -/

namespace Sys2Proof.Machine

namespace Controller

/-! The extent that an ownership order names. -/

theorem lt_of_extent {c : Controller} {n : Nat} {e : ExtentEntry} (there : c.tables.active.extents[n]? = some e) :
    n < 16 := (Vector.getElem?_eq_some_iff.mp there).1

/-- Check 6 has found the entry that an accepted ownership order names. -/
theorem orderExtent_of_passes {c : Controller} {o : Order} {n : Nat} {e : ExtentEntry} (passes : c.passes o = true)
    (ops : o.operands = some (.extent n)) (there : c.tables.active.extents[n]? = some e) :
    c.orderExtent o = some (.found n e) := by
  have run : c.runChecks o = none := by simpa using (Bool.and_eq_true_iff.mp passes).2
  have h6 : c.check6 o = none := runChecks_eq_none run (by simp [checks])
  have named : c.orderExtent o = some (c.namedExtent n) := by rw [orderExtent, ops]
  have entry : c.namedExtent n =
      if (!e.w0.good) = true then .fault else if e.valid = true then .found n e else .notFound := by
    rw [namedExtent, TableSet.extent?, there]
  rw [check6, named, entry] at h6
  rw [named, entry]
  by_cases good : (!e.w0.good) = true
  · rw [if_pos good] at h6
    exact nomatch h6
  · rw [if_neg good] at h6 ⊢
    by_cases valid : e.valid = true
    · rw [if_pos valid]
    · rw [if_neg valid] at h6
      exact nomatch h6

theorem orderClaim_of_found {c : Controller} {o : Order} {n : Nat} {e : ExtentEntry}
    (found : c.orderExtent o = some (.found n e)) : c.orderClaim o = some (n, e) := by rw [orderClaim, found]

/-! CLAIM (R68, R69). -/

section

variable {c : Controller} {o : Order} {n : Nat} {e : ExtentEntry} (named : c.orderClaim o = some (n, e))

include named

theorem acceptClaim_shared (shared : e.exclusive = false) : c.acceptClaim o = c.answerOrder o .notExclusive := by
  simp [acceptClaim, named, shared]

theorem acceptClaim_free (exclusive : e.exclusive = true) (h : c.claimAt n = some .free) :
    c.acceptClaim o = (c.setClaim n (some (.held o.channel))).answerOrder o .granted := by
  simp [acceptClaim, named, exclusive, h]

theorem acceptClaim_own (exclusive : e.exclusive = true) (h : c.claimAt n = some (.held o.channel)) :
    c.acceptClaim o = c.answerOrder o .alreadyHeld := by
  simp [acceptClaim, named, exclusive, h]

theorem acceptClaim_held (exclusive : e.exclusive = true) (h : c.claimAt n = some (.held o.channel.other)) :
    c.acceptClaim o = c.waitForClaim o n o.channel.other := by
  simp [acceptClaim, named, exclusive, h, channel_other_ne]

theorem acceptClaim_moving (exclusive : e.exclusive = true) {h : Channel} {t : Timer} {w : Bool}
    (moving : c.claimAt n = some (.wanted h t) ∨ c.claimAt n = some (.handingOver h w)) :
    c.acceptClaim o = c.answerOrder o (if h = o.channel then .alreadyHeld else .claimPending) := by
  rcases moving with moving | moving <;> simp [acceptClaim, named, exclusive, moving]

end

/-- A claim in WANTED after CLAIM-WANTED has gone out (R69, steps 1 to 3). -/
theorem waitForClaim_readable {c : Controller} {o : Order} {n : Nat} {h : Channel} (low : n < 16)
    (readable : c.noticesReadable h = true) :
    let wanted := ((c.addRecord { c.newRecord o .claim .claimWait with extent := some n }).setClaim n
      (some (.wanted h none))).offer h (.claimWanted n)
    c.waitForClaim o n h = wanted.startYieldTimer n h ∧ wanted.tables = c.tables := by
  intro wanted
  have eq := offer_readable (c := (c.addRecord { c.newRecord o .claim .claimWait with extent := some n }).setClaim n
    (some (.wanted h none))) readable (.claimWanted n)
  have at_n : wanted.claimAt n = some (.wanted h none) := by
    rw [show wanted = _ from eq]
    exact setClaim_claimAt_self _ _ _ low
  have tables : wanted.tables = c.tables := by rw [show wanted = _ from eq]; rfl
  refine ⟨?_, tables⟩
  show (match wanted.claimAt n with
    | some (.wanted _ _) => wanted.startYieldTimer n h
    | _ => wanted) = _
  rw [at_n]

theorem startYieldTimer_unlimited {c : Controller} {n : Nat} {e : ExtentEntry} (h : Channel)
    (there : c.tables.active.extents[n]? = some e) (good : e.w3.good = true) (zero : e.yieldLimit = 0) :
    c.startYieldTimer n h = c := by simp [startYieldTimer, TableSet.extent?, there, good, zero]

theorem startYieldTimer_limited {c : Controller} {n : Nat} {e : ExtentEntry} (h : Channel)
    (there : c.tables.active.extents[n]? = some e) (good : e.w3.good = true) (pos : 0 < e.yieldLimit) :
    c.startYieldTimer n h = c.setClaim n (some (.wanted h (some (e.yieldLimit * 100)))) := by
  simp [startYieldTimer, TableSet.extent?, there, good, Nat.ne_of_gt pos, Config.tenthMs]

theorem startYieldTimer_bad {c : Controller} {n : Nat} {e : ExtentEntry} (h : Channel)
    (there : c.tables.active.extents[n]? = some e) (bad : e.w3.good = false) :
    c.startYieldTimer n h = c.tableFault := by simp [startYieldTimer, TableSet.extent?, there, bad]

end Controller

open Controller in
/-- Settles O15: the claim state decides the answer of a CLAIM, and the yield limit what a waiting one starts. -/
theorem claimIsAnsweredOrWaits : Obligations.ClaimIsAnsweredOrWaits := by
  refine ⟨fun ch f s n e timers passes ops there => ?_, fun ch f s n e timers passes ops there exclusive held readable => ?_⟩
  all_goals
    intro c
    have named : c.orderClaim (.of .claim ch f) = some (n, e) :=
      orderClaim_of_found (c := c) (orderExtent_of_passes (c := s.ctl) passes ops there)
    have taken := frameTaken_timers timers ch
    have gives : ∀ {d : Controller}, c.acceptClaim (.of .claim ch f) = d → c.SameRest d → Gives (.claim ch f) s d :=
      fun accepts rest => accepted_gives (i := .claim ch f) (Eq.refl _) passes accepts (rest.timers taken)
  · have low := lt_of_extent there
    refine ⟨fun shared => gives (acceptClaim_shared named shared) (placeAnswer_sameRest ..), fun exclusive =>
      ⟨fun free => ?_, fun own => gives (acceptClaim_own named exclusive own) (placeAnswer_sameRest ..),
        fun h t w moving => ?_⟩⟩
    · exact gives (acceptClaim_free named exclusive free) ((setClaim_sameRest ..).trans (placeAnswer_sameRest ..))
    · exact gives (acceptClaim_moving named exclusive moving) (placeAnswer_sameRest ..)
  · intro wanted
    obtain ⟨waits, tables⟩ := waitForClaim_readable (c := c) (o := .of .claim ch f) (lt_of_extent there) readable
    have accepts := (acceptClaim_held named exclusive held).trans waits
    have there' : wanted.tables.active.extents[n]? = some e := by
      rw [show wanted.tables = c.tables from tables]
      exact there
    have rest : c.SameRest wanted :=
      (addRecord_sameRest ..).trans ((setClaim_sameRest ..).trans (offer_sameRest ..))
    exact ⟨fun good zero => gives (accepts.trans (startYieldTimer_unlimited _ there' good zero)) rest,
      fun good pos => gives (accepts.trans (startYieldTimer_limited _ there' good pos))
        (rest.trans (setClaim_sameRest ..)),
      fun bad => gives (accepts.trans (startYieldTimer_bad _ there' bad)) (rest.trans (tableFault_sameRest _))⟩

/-- The command that brings an order of a defined function is that function's. -/
theorem instr_of_order {i : Instr} {fn : Func} {ch : Channel} {f : OrderFrame} (h : i.order? = some (.of fn ch f)) :
    i = .ofFunc fn ch f := by
  cases i with
  | undefinedFunction c code g => exact nomatch congrArg Order.fn (Option.some.inj h)
  | null | read | write | verify | formatTrack | seek | sync | claim | yield | keep | release | status | readSuspect
  | readTable | loadTable | copyActive | commit | setDriveTarget | clearDeferred | clearSuspect | clearMonitor =>
    have e := Option.some.inj h
    have function := Option.some.inj (congrArg Order.fn e)
    have channel := congrArg Order.channel e
    have frame := congrArg Order.frame e
    simp only [Order.of_channel, Order.of_frame] at channel frame
    subst function channel frame
    rfl
  | _ => exact nomatch h

namespace Controller

/-! YIELD, KEEP and RELEASE (R70 to R74). -/

section

variable {c : Controller} {o : Order} {n : Nat} {e : ExtentEntry} {cl : Claim}
  (named : c.orderClaim o = some (n, e))

include named

theorem onClaim_of_claimed (exclusive : e.exclusive = true) (h : c.claimAt n = some cl)
    (act : Nat → Claim → Controller) : c.onClaim o act = act n cl := by
  simp [onClaim, named, exclusive, h]

theorem onClaim_of_shared (shared : e.exclusive = false) (act : Nat → Claim → Controller) :
    c.onClaim o act = c.answerOrder o .notExclusive := by
  simp [onClaim, named, shared]

end

/-- A handover that still stands after its middle step turns the old holder's writes away and ends an empty drain
(R77). -/
theorem enterHandover_eq {c : Controller} {n : Nat} {h : Channel} {toWaiter : Bool} {mid : Controller → Controller}
    (low : n < 16) (kept : (mid (c.setClaim n (some (.handingOver h toWaiter)))).claims =
      (c.setClaim n (some (.handingOver h toWaiter))).claims) :
    c.enterHandover n h toWaiter mid =
      ((mid (c.setClaim n (some (.handingOver h toWaiter)))).turnAwayWrites h n).endDrain n := by
  have stands : (mid (c.setClaim n (some (.handingOver h toWaiter)))).claimAt n = some (.handingOver h toWaiter) := by
    rw [claimAt, kept]
    exact setClaim_claimAt_self _ _ _ low
  rw [enterHandover, stands]

/-- The handover of an order, the answer given as soon as the state has changed (R71, R72, R77). -/
theorem handOver_eq {c : Controller} (o : Order) {n : Nat} (low : n < 16) (toWaiter : Bool) :
    c.handOver o n toWaiter =
      (((c.setClaim n (some (.handingOver o.channel toWaiter))).answerOrder o .done).turnAwayWrites o.channel
        n).endDrain n := enterHandover_eq low rfl

theorem withdrawClaim_sameRest (c : Controller) (o : Order) (n : Nat) (cl : Claim) :
    c.SameRest (c.withdrawClaim o n cl) :=
  (setClaim_sameRest ..).trans ((answerWaiter_sameRest ..).trans (answerOrder_sameRest ..))

/-- An accepted ownership order gives what it makes of the claim that it names. -/
theorem ownership_gives {s : State} {i : Instr} {fn : Func} {ch : Channel} {f : OrderFrame} {n : Nat} {e : ExtentEntry}
    {cl : Claim} {act : Nat → Claim → Controller} {accept : Controller → Controller} {d : Controller}
    (effect : i.effect s.ctl = s.ctl.order (.of fn ch f) accept)
    (accepts : accept (s.ctl.frameTaken ch) = (s.ctl.frameTaken ch).onClaim (.of fn ch f) act)
    (timers : s.ctl.timersReadable = true) (passes : s.ctl.passes (.of fn ch f) = true)
    (ops : (Order.of fn ch f).operands = some (.extent n)) (there : s.ctl.tables.active.extents[n]? = some e)
    (exclusive : e.exclusive = true) (claimed : s.ctl.claimAt n = some cl) (acts : act n cl = d)
    (rest : (s.ctl.frameTaken ch).SameRest d) : Gives i s d := by
  have named : (s.ctl.frameTaken ch).orderClaim (.of fn ch f) = some (n, e) :=
    orderClaim_of_found (c := s.ctl.frameTaken ch) (orderExtent_of_passes (c := s.ctl) passes ops there)
  exact accepted_gives effect passes (accepts.trans ((onClaim_of_claimed named exclusive claimed act).trans acts))
    (rest.timers (frameTaken_timers timers ch))

end Controller

open Controller in
/-- Settles O16: the holder's and the waiter's orders on each claim state. -/
theorem holderAndWaiterMoveTheClaim : Obligations.HolderAndWaiterMoveTheClaim := by
  refine ⟨fun ch f s n e t timers ops there exclusive => ?_, fun ch f s n e timers ops there exclusive passes => ?_⟩
  · intro c handover
    have low := lt_of_extent there
    have turned : ∀ toWaiter fn, c.SameRest (handover toWaiter fn) := fun toWaiter fn =>
      (setClaim_sameRest ..).trans ((placeAnswer_sameRest ..).trans
        ((turnAwayWrites_sameRest ..).trans (endDrain_sameRest ..)))
    refine ⟨fun wanted => ⟨fun passes => ?_, fun passes => ?_, fun passes => ?_⟩, fun held passes => ?_⟩
    · refine ownership_gives (i := .keep ch f) (Eq.refl _) (Eq.refl _) timers passes ops there exclusive wanted
        (if_pos (beq_self_eq_true ch)) ?_
      exact (setClaim_sameRest ..).trans ((answerWaiter_sameRest ..).trans (placeAnswer_sameRest ..))
    · exact ownership_gives (i := .yield ch f) (Eq.refl _) (Eq.refl _) timers passes ops there exclusive wanted
        ((if_pos (beq_self_eq_true ch)).trans (handOver_eq _ low true))
        (turned true .yield)
    · exact ownership_gives (i := .release ch f) (Eq.refl _) (Eq.refl _) timers passes ops there exclusive wanted
        ((if_pos (beq_self_eq_true ch)).trans (handOver_eq _ low true))
        (turned true .release)
    · exact ownership_gives (i := .release ch f) (Eq.refl _) (Eq.refl _) timers passes ops there exclusive held
        ((if_pos (beq_self_eq_true ch)).trans (handOver_eq _ low false))
        (turned false .release)
  · intro withdrawn
    have other : ¬(ch.other == ch) = true := by simpa using channel_other_ne ch
    refine ⟨fun t wanted => ?_, fun handing => ?_⟩
    · exact ownership_gives (i := .release ch f) (Eq.refl _) (Eq.refl _) timers passes ops there exclusive wanted
        (if_neg other) (withdrawClaim_sameRest _ (.of .release ch f) n (.wanted ch.other t))
    · exact ownership_gives (i := .release ch f) (Eq.refl _) (Eq.refl _) timers passes ops there exclusive handing
        ((if_neg other).trans (if_pos rfl)) (withdrawClaim_sameRest _ (.of .release ch f) n (.handingOver ch.other true))

namespace Controller

/-- The answer of an ownership order that finds no place for it (R70 to R74). -/
def noPlace (fn : Func) (ch : Channel) : Claim → Option AnswerCode
  | .free => some .notHolder
  | .held h => if h = ch then (if fn = .release then none else some .tooLate) else some .notHolder
  | .wanted h _ => if h = ch ∨ fn = .release then none else some .notHolder
  | .handingOver h w => if h = ch then some .tooLate else if w ∧ fn = .release then none else some .notHolder

section

variable {c : Controller} {o : Order} {n : Nat} {e : ExtentEntry} {cl : Claim} {code : AnswerCode}
  (named : c.orderClaim o = some (n, e)) (exclusive : e.exclusive = true) (claimed : c.claimAt n = some cl)

include named exclusive claimed

theorem acceptYield_noPlace (h : noPlace .yield o.channel cl = some code) : c.acceptYield o = c.answerOrder o code := by
  rw [acceptYield, onClaim_of_claimed named exclusive claimed]
  cases cl with
  | free => rw [← Option.some.inj h]
  | held | wanted | handingOver => simp only [noPlace] at h; grind

theorem acceptKeep_noPlace (h : noPlace .keep o.channel cl = some code) : c.acceptKeep o = c.answerOrder o code := by
  rw [acceptKeep, onClaim_of_claimed named exclusive claimed]
  cases cl with
  | free => rw [← Option.some.inj h]
  | held | wanted | handingOver => simp only [noPlace] at h; grind

theorem acceptRelease_noPlace (h : noPlace .release o.channel cl = some code) :
    c.acceptRelease o = c.answerOrder o code := by
  rw [acceptRelease, onClaim_of_claimed named exclusive claimed]
  cases cl with
  | free => rw [← Option.some.inj h]
  | held | wanted | handingOver => simp only [noPlace] at h; grind

end

end Controller

open Controller in
/-- Settles O17: every claim state that gives the order no place answers it, and a SHARED extent has none. -/
theorem ownershipOrderWithoutAPlaceChangesNothing : Obligations.OwnershipOrderWithoutAPlaceChangesNothing := by
  intro i fn ch f s n e t w order mem timers passes ops there answered
  have taken := frameTaken_timers timers ch
  obtain rfl := instr_of_order order
  have operands : (Order.of fn ch f).operands = some (.extent n) := by
    simp only [List.mem_cons, List.not_mem_nil, or_false] at mem
    rcases mem with rfl | rfl | rfl <;> exact ops
  have named : (s.ctl.frameTaken ch).orderClaim (.of fn ch f) = some (n, e) :=
    orderClaim_of_found (c := s.ctl.frameTaken ch) (orderExtent_of_passes (c := s.ctl) passes operands there)
  have rest : ∀ code, (s.ctl.frameTaken ch).SameRest
      ((s.ctl.frameTaken ch).placeAnswer ch (answerTo f fn code)) := fun _ => placeAnswer_sameRest ..
  have refused : ∀ cl code, e.exclusive = true → s.ctl.claimAt n = some cl → noPlace fn ch cl = some code →
      answered code := fun cl code exclusive claimed h => by
    simp only [List.mem_cons, List.not_mem_nil, or_false] at mem
    rcases mem with rfl | rfl | rfl
    · exact accepted_gives (i := .yield ch f) (Eq.refl _) passes (acceptYield_noPlace named exclusive claimed h)
        ((rest code).timers taken)
    · exact accepted_gives (i := .keep ch f) (Eq.refl _) passes (acceptKeep_noPlace named exclusive claimed h)
        ((rest code).timers taken)
    · exact accepted_gives (i := .release ch f) (Eq.refl _) passes (acceptRelease_noPlace named exclusive claimed h)
        ((rest code).timers taken)
  have ne := channel_other_ne ch
  refine ⟨fun shared => ?_, fun exclusive => ⟨fun h => refused _ _ exclusive h rfl, fun h => refused _ _ exclusive h ?_,
    fun h => refused _ _ exclusive h ?_, fun keeps h => refused _ _ exclusive h ?_,
    fun keeps h => refused _ _ exclusive h ?_, fun keeps h => refused _ _ exclusive h ?_,
    fun h => refused _ _ exclusive h ?_⟩⟩
  · simp only [List.mem_cons, List.not_mem_nil, or_false] at mem
    rcases mem with rfl | rfl | rfl
    · exact accepted_gives (i := .yield ch f) (Eq.refl _) passes (onClaim_of_shared named shared _)
        ((rest .notExclusive).timers taken)
    · exact accepted_gives (i := .keep ch f) (Eq.refl _) passes (onClaim_of_shared named shared _)
        ((rest .notExclusive).timers taken)
    · exact accepted_gives (i := .release ch f) (Eq.refl _) passes (onClaim_of_shared named shared _)
        ((rest .notExclusive).timers taken)
  · simp [noPlace, ne]
  · simp [noPlace, ne]
  · simp [noPlace, ne, keeps]
  · simp [noPlace, ne, keeps]
  · simp [noPlace, keeps]
  · simp [noPlace]

end Sys2Proof.Machine
end


section
/-! The end of a drain and the expiry of a yield timer (O18); what a leaving record does (O19). -/

namespace Sys2Proof.Machine

namespace Controller

theorem lt_of_claimAt {c : Controller} {n : Nat} {cl : Claim} (h : c.claimAt n = some cl) : n < 16 := by
  by_contra out
  simp [claimAt, out] at h

/-! The end of a drain (R59, R78). -/

/-- A record counts in a drain (R59). -/
theorem inDrain_iff {r : Record} {h : Channel} {n : Nat} : r.inDrain h n = true ↔
    r.channel = h ∧ r.isWriting = true ∧ r.extent = some n ∧ (r.state = .lingering ∨ r.state = .active) := by
  simp [Record.inDrain, and_assoc]

theorem drainCount_eq_zero_iff {c : Controller} {h : Channel} {n : Nat} :
    (c.drainCount h n == 0) = true ↔ ∀ r ∈ c.records, ¬r.inDrain h n = true := by
  simp [drainCount, List.filter_eq_nil_iff]

section

variable {c : Controller} {h : Channel} {n : Nat} {toWaiter : Bool}
  (handing : c.claimAt n = some (.handingOver h toWaiter))

include handing

/-- An empty drain passes the claim to the waiter. -/
theorem endDrain_granted (empty : ∀ r ∈ c.records, ¬r.inDrain h n = true) (w : toWaiter = true) :
    c.endDrain n = (c.setClaim n (some (.held h.other))).answerWaiter h.other n .granted := by
  rw [endDrain, handing]
  dsimp only
  rw [if_pos (drainCount_eq_zero_iff.mpr empty), if_pos w]

/-- An empty drain with no waiter leaves the claim FREE. -/
theorem endDrain_freed (empty : ∀ r ∈ c.records, ¬r.inDrain h n = true) (w : toWaiter = false) :
    c.endDrain n = c.setClaim n (some .free) := by
  rw [endDrain, handing]
  dsimp only
  rw [if_pos (drainCount_eq_zero_iff.mpr empty), if_neg (ne_true_of_eq_false w)]

/-- A drain that still counts a record goes on. -/
theorem endDrain_waits {r : Record} (hr : r ∈ c.records) (counts : r.inDrain h n = true) : c.endDrain n = c := by
  rw [endDrain, handing]
  dsimp only
  rw [if_neg fun empty => drainCount_eq_zero_iff.mp empty r hr counts]

end

/-! The expiry of a yield timer (R76). -/

theorem yieldExpires_wanted {c : Controller} {h : Channel} {n d : Nat}
    (wanted : c.claimAt n = some (.wanted h (some d))) (readable : c.noticesReadable h = true) :
    c.yieldExpires n = (((c.setClaim n (some (.handingOver h true))).offer h (.claimLost n)).turnAwayWrites h
      n).endDrain n := by
  rw [yieldExpires, wanted]
  refine enterHandover_eq (lt_of_claimAt wanted) ?_
  rw [offer_readable (c := c.setClaim n (some (.handingOver h true))) readable]
  rfl

theorem yieldExpires_idle {c : Controller} {n : Nat}
    (idle : ∀ h d, c.claimAt n ≠ some (.wanted h (some d))) : c.yieldExpires n = c := by
  unfold yieldExpires
  split
  · exact absurd ‹_› (idle _ _)
  · rfl

theorem yieldExpires_sameRest (c : Controller) (n : Nat) : c.SameRest (c.yieldExpires n) := by
  unfold yieldExpires
  split
  · exact enterHandover_sameRest _ _ _ _ _ fun _ => offer_sameRest ..
  · exact .rfl

end Controller

open Controller in
/-- Settles O18: the drain by what it counts, the yield timer by whether it runs. -/
theorem drainEndAndYieldTimerMoveTheClaim : Obligations.DrainEndAndYieldTimerMoveTheClaim := by
  refine ⟨fun s n h toWaiter timers handing => ?_, fun s n h timers => ⟨fun d wanted readable => ?_, fun idle => ?_⟩⟩
  · have gives : ∀ {d}, s.ctl.endDrain n = d → Gives (.drainEnd n) s d := fun e =>
      gives_of_effect e (e ▸ (endDrain_sameRest ..).timers timers)
    refine ⟨fun ended => ?_, fun ⟨r, hr, own, writing, extent, counted⟩ => ?_⟩
    · have empty : ∀ r ∈ s.ctl.records, ¬r.inDrain h n = true := fun r hr counts => by
        obtain ⟨own, writing, extent, counted⟩ := inDrain_iff.mp counts
        obtain ⟨lingers, works⟩ := ended r hr own writing extent
        exact counted.elim lingers works
      exact ⟨fun w => gives (endDrain_granted handing empty w), fun w => gives (endDrain_freed handing empty w)⟩
    · exact gives (endDrain_waits handing hr (inDrain_iff.mpr ⟨own, writing, extent, counted⟩))
  · have e := yieldExpires_wanted wanted readable
    exact gives_of_effect e (e ▸ (yieldExpires_sameRest ..).timers timers)
  · exact gives_of_effect (yieldExpires_idle idle) timers

namespace Controller

/-! The leaving of one record (R42). -/

/-- A record that has left has freed its buffers. -/
theorem buffers_free_of_takeOut {c : Controller} (sound : c.buffersSound) {r : Record}
    (hr : r ∈ c.records) (ans : Option Answer) {b : Nat} (hb : b ∈ r.buffers) :
    b ∈ (c.takeOut r.seq ans).freeBuffers := by
  obtain ⟨nodup, low⟩ := sound
  have apart := (List.nodup_flatMap.mp nodup).2
  have held : b ∈ c.heldBuffers := List.mem_flatMap.mpr ⟨r, hr, hb⟩
  refine mem_freeBuffers.mpr ⟨low b held, fun still => ?_⟩
  obtain ⟨q, hq, hqb⟩ := List.mem_flatMap.mp still
  rw [takeOut_records] at hq
  obtain ⟨hq, ne⟩ := List.mem_filter.mp hq
  have distinct : q ≠ r := fun e => by simp [e] at ne
  have symmetric : Std.Symm (Function.onFun List.Disjoint fun r : Record => r.buffers) := ⟨fun _ _ h => h.symm⟩
  exact apart.forall hq hr distinct hqb hb

/-- An ACTIVE record with no early mark is reported to the Claim Unit alone. -/
theorem leave_active {c : Controller} {r : Record} (found : c.findRecord r.seq = some r) (ans : Option Answer)
    (active : r.state = .active) (early : r.early = false) :
    c.leave r.seq ans = (c.takeOut r.seq ans).drainFalls r := by
  rw [leave_of_found found, if_neg]
  simp [Record.endsSyncs, active, early]

/-- A LINGERING record, or an ACTIVE one with its early mark, is then reported to the SYNC completion test. -/
theorem leave_awaited {c : Controller} {r : Record} (found : c.findRecord r.seq = some r) (ans : Option Answer)
    (awaited : r.state = .lingering ∨ r.state = .active ∧ r.early = true) :
    c.leave r.seq ans = ((c.takeOut r.seq ans).drainFalls r).completeSyncs r.channel := by
  rw [leave_of_found found, if_pos]
  rcases awaited with lingering | ⟨active, early⟩
  · simp [Record.endsSyncs, lingering]
  · simp [Record.endsSyncs, active, early]

/-! The report to the Claim Unit. -/

/-- A record that counted in the drain of its channel is reported to it. -/
theorem drainFalls_of_counted {c : Controller} {r : Record} {n : Nat} {toWaiter : Bool}
    (handing : c.claimAt n = some (.handingOver r.channel toWaiter)) (counted : r.inDrain r.channel n = true) :
    c.drainFalls r = c.endDrain n := by
  obtain ⟨-, -, extent, -⟩ := inDrain_iff.mp counted
  rw [drainFalls, extent]
  dsimp only
  rw [handing]
  exact if_pos counted

/-- A record that counted in no drain that is over moves no claim. -/
theorem drainFalls_of_not {c : Controller} {r : Record} (h : ∀ n toWaiter,
    ¬(r.inDrain r.channel n = true ∧ c.claimAt n = some (.handingOver r.channel toWaiter) ∧
      ∀ q ∈ c.records, ¬q.inDrain r.channel n = true)) : c.drainFalls r = c := by
  unfold drainFalls
  split
  · rfl
  · rename_i n _
    split
    · rename_i holder toWaiter handing
      split
      · rename_i counted
        obtain ⟨rfl, -⟩ := inDrain_iff.mp counted
        have left : ∃ q ∈ c.records, q.inDrain r.channel n = true := by
          by_contra none_left
          exact h n toWaiter ⟨counted, handing, fun q hq k => none_left ⟨q, hq, k⟩⟩
        obtain ⟨q, hq, k⟩ := left
        exact endDrain_waits handing hq k
      · rfl
    · rfl

/-! The waiter's CLAIM, and the writes turned away. -/

theorem claimWaiter_eq_none_iff {c : Controller} {ch : Channel} {n : Nat} : c.claimWaiter ch n = none ↔
    ∀ q ∈ c.records, ¬(q.state = .claimWait ∧ q.channel = ch ∧ q.extent = some n) := by
  simp [claimWaiter, and_assoc]

/-- The only CLAIM that a channel has waiting on an extent is its waiter's. -/
theorem claimWaiter_of_unique {c : Controller} {ch : Channel} {n : Nat} {q : Record} (hq : q ∈ c.records)
    (waits : q.state = .claimWait ∧ q.channel = ch ∧ q.extent = some n)
    (unique : ∀ p ∈ c.records, p.state = .claimWait ∧ p.channel = ch ∧ p.extent = some n → p = q) :
    c.claimWaiter ch n = some q := by
  cases h : c.claimWaiter ch n with
  | none => exact absurd waits (claimWaiter_eq_none_iff.mp h q hq)
  | some p =>
    obtain ⟨hp, waits⟩ := claimWaiter_some h
    rw [unique p hp waits]

/-- The WAITING writes of a channel in an extent, which a handover turns away (R77). -/
def turnedAway (ch : Channel) (n : Nat) (r : Record) : Bool :=
  r.state == .waiting && r.isWriting && r.channel == ch && r.extent == some n

theorem turnedAway_state {ch : Channel} {n : Nat} {r : Record} (h : turnedAway ch n r = true) :
    r.state = .waiting ∧ r.channel = ch := by
  simp only [turnedAway, Bool.and_eq_true, beq_iff_eq] at h
  exact ⟨h.1.1.1, h.1.2⟩

/-- They leave together. -/
theorem turnAwayWrites_eq {c : Controller} (s : c.sequenceSound) (ch : Channel) (n : Nat) :
    c.turnAwayWrites ch n =
      c.takenOut (c.records.filter (turnedAway ch n)) fun r => some (r.answer .claimLost) :=
  foldl_takeOut_filter s fun r lost d found _ => by
    obtain ⟨waiting, -⟩ := turnedAway_state lost
    exact leave_eq_takeOut found (by simp [waiting]) (by simp [waiting]) _

/-- Records of a state other than COMMIT-WAIT clear no COMMIT-pending mark. -/
theorem takenOut_commitPending {c : Controller} {p : Record → Bool} {ans : Record → Option Answer}
    (h : ∀ r, p r = true → r.state ≠ .commitWait) :
    (c.takenOut (c.records.filter p) ans).work.commitPending = c.work.commitPending := by
  have all : (c.records.filter p).all (·.state != .commitWait) = true := List.all_eq_true.mpr fun r hr => by
    simpa using h r (List.mem_filter.mp hr).2
  rw [takenOut, all, Bool.and_true]

end Controller

open Controller in
/-- Settles O19: the leaving of one record, its report to the Claim Unit, the waiter's answer, and the turned-away
writes. -/
theorem leavingRecordIsAnsweredAndFreed : Obligations.LeavingRecordIsAnsweredAndFreed := by
  refine ⟨fun c r ans sound => ⟨fun hr buffers => ?_, fun gone => leave_of_none (findRecord_eq_none_iff.mpr gone) _⟩,
    fun c r => ?_, fun c ch n code sound => ?_, fun c ch n sound => ?_⟩
  · intro d
    have found := sound.findRecord hr
    have port : d.port r.channel = (c.port r.channel).leaveWith r.seq ans := takeOut_port_self found ans
    refine ⟨takeOut_records .., fun still => ?_, ?_, takeOut_port_of_ne found ans (channel_other_ne _),
      fun b hb => buffers_free_of_takeOut buffers hr ans hb, takeOut_commitPending found ans, takeOut_claims ..,
      takeOut_deferred .., takeOut_tables .., fun lingers works => leave_eq_takeOut found lingers works ans,
      leave_active found ans, leave_awaited found ans⟩
    · rw [takeOut_records] at still
      simpa using (List.mem_filter.mp still).2
    · rw [port, Port.leaveWith_ready]
  · intro counts falls
    have counted : ∀ {q n}, counts q n ↔ q.inDrain r.channel n = true := inDrain_iff.symm
    refine ⟨fun n ⟨own, handing, empty⟩ => ?_, fun n ⟨own, handing, empty⟩ => ?_, fun none_falls => ?_⟩
    · rw [drainFalls_of_counted handing (counted.mp own)]
      exact endDrain_granted handing (fun q hq k => empty q hq (counted.mpr k)) rfl
    · rw [drainFalls_of_counted handing (counted.mp own)]
      exact endDrain_freed handing (fun q hq k => empty q hq (counted.mpr k)) rfl
    · refine drainFalls_of_not fun n toWaiter ⟨own, handing, empty⟩ => none_falls n toWaiter ?_
      exact ⟨counted.mpr own, handing, fun q hq k => empty q hq (counted.mp k)⟩
  · intro waits
    refine ⟨fun q hq waiting unique => ?_, fun nobody => answerWaiter_of_none (claimWaiter_eq_none_iff.mpr nobody) _⟩
    obtain ⟨state, -⟩ := id waiting
    rw [answerWaiter_of_some (claimWaiter_of_unique hq waiting unique)]
    exact (leave_eq_takeOut (sound.findRecord hq) (by simp [state]) (by simp [state]) _).symm
  · intro lost d
    have leaving : d = c.takenOut (c.records.filter lost) fun r => some (r.answer .claimLost) :=
      turnAwayWrites_eq sound ch n
    have own : ∀ r, lost r = true → r.channel = ch := fun r h => (turnedAway_state h).2
    have rest : c.SameRest d := turnAwayWrites_sameRest ..
    refine ⟨?_, ?_, ?_, ?_, ?_, ?_, ?_, ?_, ?_, rest.drive, rest.media⟩
    · rw [leaving, takenOut_filter_records]
    · rw [leaving, takenOut_ready_self _ own]
    · rw [leaving, takenOut_port, Port.leaves_notices]
    · rw [leaving]
      exact takenOut_port_of_ne own (channel_other_ne ch)
    · rw [leaving, takenOut_claims]
    · rw [leaving, takenOut_deferred]
    · rw [leaving]
      exact takenOut_commitPending fun r h => by simp [(turnedAway_state h).1]
    · rw [leaving, takenOut_tables]
    · rw [leaving]
      rfl

end Sys2Proof.Machine
end


section
/-! LOAD-TABLE and COPY-ACTIVE (O21). -/

namespace Sys2Proof.Machine

/-! The entries that are in range (R143): each has the words of its table, and its fields stand in their ranges. -/

theorem entryInRange_channel_iff {ws : List Word} : entryInRange .channel ws = true ↔
    ∃ w0 w1 w2, ws = [w0, w1, w2] ∧ channelWordsInRange w0 w1 w2 = true := by
  match ws with
  | [w0, w1, w2] => exact ⟨fun h => ⟨w0, w1, w2, rfl, h⟩, fun ⟨_, _, _, e, h⟩ => by cases e; exact h⟩
  | [] | [_] | [_, _] | _ :: _ :: _ :: _ :: _ => simp [entryInRange]

theorem entryInRange_extent_iff {ws : List Word} : entryInRange .extent ws = true ↔
    ∃ w0 w1 w2 w3, ws = [w0, w1, w2, w3] ∧ extentWordsInRange w0 w1 w2 w3 = true := by
  match ws with
  | [w0, w1, w2, w3] => exact ⟨fun h => ⟨w0, w1, w2, w3, rfl, h⟩, fun ⟨_, _, _, _, e, h⟩ => by cases e; exact h⟩
  | [] | [_] | [_, _] | [_, _, _] | _ :: _ :: _ :: _ :: _ :: _ => simp [entryInRange]

theorem entryInRange_remap_iff {ws : List Word} : entryInRange .remap ws = true ↔
    ∃ w0 w1, ws = [w0, w1] ∧ remapWordsInRange w0 w1 = true := by
  match ws with
  | [w0, w1] => exact ⟨fun h => ⟨w0, w1, rfl, h⟩, fun ⟨_, _, e, h⟩ => by cases e; exact h⟩
  | [] | [_] | _ :: _ :: _ :: _ => simp [entryInRange]

theorem entryInRange_drive_iff {ws : List Word} : entryInRange .drive ws = true ↔
    ∃ w0 w1 w2 w3 w4, ws = [w0, w1, w2, w3, w4] ∧ driveWordsInRange w0 w1 w2 w3 w4 = true := by
  match ws with
  | [w0, w1, w2, w3, w4] =>
    exact ⟨fun h => ⟨w0, w1, w2, w3, w4, rfl, h⟩, fun ⟨_, _, _, _, _, e, h⟩ => by cases e; exact h⟩
  | [] | [_] | [_, _] | [_, _, _] | [_, _, _, _] | _ :: _ :: _ :: _ :: _ :: _ :: _ => simp [entryInRange]

theorem entryInRange_monitor_iff {ws : List Word} : entryInRange .monitor ws = true ↔
    ∃ w0, ws = [w0] ∧ monitorWordsInRange w0 = true := by
  match ws with
  | [w0] => exact ⟨fun h => ⟨w0, rfl, h⟩, fun ⟨_, e, h⟩ => by cases e; exact h⟩
  | [] | _ :: _ :: _ => simp [entryInRange]

theorem flagged_iff {b p : Bool} : (!b || p) = true ↔ (b = true → p = true) := by cases b <;> simp

namespace TableSet

/-! What the writing of an entry is to the tables (R141, R142). -/

/-- The words of an entry written afresh. -/
def freshWords (ws : List Word) : List TWord := ws.map fun w => { value := w, good := true }

/-- The entries of a table after the writing: at the index these words, elsewhere what stood there. -/
theorem writeEntry_entries (t : TableSet) {table : TableId} {i : Nat} {ws : List Word}
    (range : entryInRange table ws = true) (low : i < (t.entries table).length) :
    (t.writeEntry table i ws).entries table = (t.entries table).set i (freshWords ws) := by
  cases table with
  | channel =>
    obtain ⟨w0, w1, w2, rfl, -⟩ := entryInRange_channel_iff.mp range
    match i, low with
    | 0, _ => rfl
    | 1, _ => rfl
  | extent =>
    obtain ⟨w0, w1, w2, w3, rfl, -⟩ := entryInRange_extent_iff.mp range
    simp only [entries, writeEntry, Vector.toList_setIfInBounds, List.map_set]
    rfl
  | remap =>
    obtain ⟨w0, w1, rfl, -⟩ := entryInRange_remap_iff.mp range
    simp only [entries, writeEntry, Vector.toList_setIfInBounds, List.map_set]
    rfl
  | drive =>
    obtain ⟨w0, w1, w2, w3, w4, rfl, -⟩ := entryInRange_drive_iff.mp range
    match i, low with
    | 0, _ => rfl
  | monitor =>
    obtain ⟨w0, rfl, -⟩ := entryInRange_monitor_iff.mp range
    match i, low with
    | 0, _ => rfl

/-- The other tables stand as they were. -/
theorem writeEntry_others (t : TableSet) {table other : TableId} (i : Nat) (ws : List Word) (ne : other ≠ table) :
    (t.writeEntry table i ws).entries other = t.entries other := by
  unfold writeEntry
  split <;> cases other <;> first | rfl | exact absurd rfl ne

/-- The loading of entries in range writes all of them; the first that is not stops it (R142). -/
theorem load_append (table : TableId) (rest : List (List Word)) : ∀ (good : List (List Word)) (t : TableSet)
    (start : Nat), (∀ ws ∈ good, entryInRange table ws = true) →
    t.load table start (good ++ rest) =
      ((good.zipIdx start).foldl (fun t p => t.writeEntry table p.2 p.1) t).load table (start + good.length) rest
  | [], _, _, _ => rfl
  | ws :: good, t, start, h => by
    rw [List.cons_append, load, if_pos (h ws (List.mem_cons_self ..)),
      load_append table rest good _ _ fun v hv => h v (List.mem_cons_of_mem _ hv), List.zipIdx_cons, List.foldl_cons,
      List.length_cons, Nat.add_right_comm, Nat.add_assoc]

end TableSet

namespace Controller

/-! The two orders. -/

theorem setTables_timers {c : Controller} {t : TableStore} (h : t.active = c.tables.active)
    (timers : c.timersReadable = true) : (c.setTables t).timersReadable = true := by
  rw [timersReadable, setTables_tables, h]
  exact timers

section

variable {c : Controller} {o : Order} {table : TableId} {start : Nat} {entries : List (List Word)} {t : TableSet}
  (ops : o.operands = some (.load table start entries))

include ops

theorem acceptLoadTable_locked (pending : c.work.commitPending = true) :
    c.acceptLoadTable o = c.answerOrder o .stageLocked := by
  simp [acceptLoadTable, ops, pending]

theorem acceptLoadTable_staged (free : c.work.commitPending = false)
    (h : c.tables.staged.load table start entries = (t, none)) :
    c.acceptLoadTable o = (c.setStaged t).answerOrder o .staged := by
  simp [acceptLoadTable, ops, free, h]

theorem acceptLoadTable_range {i : Nat} (free : c.work.commitPending = false)
    (h : c.tables.staged.load table start entries = (t, some i)) :
    c.acceptLoadTable o = (c.setStaged t).placeAnswer o.channel
      { Answer.plain o.frame.tag o.code .entryRange with index := some i } := by
  simp [acceptLoadTable, ops, free, h]

end

end Controller

open Controller TableSet in
/-- Settles O21: the fields of each table, the entry written and those that stay, and the loading up to the first
failure. -/
theorem loadAndCopyWriteTheStagedSet : Obligations.LoadAndCopyWriteTheStagedSet := by
  refine ⟨fun table ws => ?_, fun t table i ws range low => ?_, ⟨fun t table start good bad rest range => ?_,
    fun ch f s table start entries t timers passes ops => ?_⟩, fun ch f s timers passes => ?_⟩
  · cases table with
    | channel =>
      simp only [entryInRange_channel_iff, channelWordsInRange, Bool.and_eq_true, decide_eq_true_eq, and_assoc]
      exact Iff.rfl
    | extent =>
      simp only [entryInRange_extent_iff, extentWordsInRange, flagged_iff, Bool.and_eq_true, decide_eq_true_eq, and_assoc]
      exact Iff.rfl
    | remap =>
      simp only [entryInRange_remap_iff, remapWordsInRange, flagged_iff, Bool.and_eq_true, decide_eq_true_eq]
      exact Iff.rfl
    | drive => simp only [entryInRange_drive_iff, driveWordsInRange, Bool.and_eq_true, decide_eq_true_eq, and_assoc]
    | monitor => simp only [entryInRange_monitor_iff, monitorWordsInRange, Bool.and_eq_true, decide_eq_true_eq, and_assoc]
  · intro d
    have written : d.entries table = (t.entries table).set i (freshWords ws) := writeEntry_entries t range low
    refine ⟨?_, fun k ne => ?_, fun other ne => writeEntry_others t i ws ne⟩
    · rw [written, List.getElem?_set_self low]
      rfl
    · rw [written, List.getElem?_set_ne (Ne.symm ne)]
  · intro written
    have all := load_append table [] good t start range
    rw [List.append_nil] at all
    refine ⟨all, fun out => ?_⟩
    rw [load_append table (bad :: rest) good t start range, load, out, if_neg Bool.false_ne_true]
  · intro c
    have operands : (Order.of .loadTable ch f).operands = some (.load table start entries) := ops
    have taken : c.timersReadable = true := frameTaken_timers timers ch
    have staged : (c.setTables { s.ctl.tables with staged := t }).timersReadable = true := setTables_timers rfl taken
    have gives : ∀ {d}, c.acceptLoadTable (.of .loadTable ch f) = d → d.timersReadable = true →
        Gives (.loadTable ch f) s d := accepted_gives (i := .loadTable ch f) (Eq.refl _) passes
    refine ⟨fun pending => ?_, fun free => ⟨fun h => ?_, fun i h => ?_⟩⟩
    · exact gives (acceptLoadTable_locked operands pending) ((placeAnswer_sameRest ..).timers taken)
    · exact gives (acceptLoadTable_staged operands free h) ((placeAnswer_sameRest ..).timers staged)
    · exact gives (acceptLoadTable_range operands free h) ((placeAnswer_sameRest ..).timers staged)
  · intro c copied
    have taken : c.timersReadable = true := frameTaken_timers timers ch
    have staged : copied.timersReadable = true := setTables_timers rfl taken
    have gives : ∀ {d}, c.acceptCopyActive (.of .copyActive ch f) = d → d.timersReadable = true →
        Gives (.copyActive ch f) s d := accepted_gives (i := .copyActive ch f) (Eq.refl _) passes
    refine ⟨fun pending => ?_, fun free => ⟨fun good => ?_, fun bad => ?_⟩⟩
    · exact gives (if_pos pending) ((placeAnswer_sameRest ..).timers taken)
    · exact gives ((if_neg (ne_true_of_eq_false free)).trans (congrArg (answerOrder · _ _) (if_pos good)))
        ((placeAnswer_sameRest ..).timers staged)
    · exact gives ((if_neg (ne_true_of_eq_false free)).trans
        (congrArg (answerOrder · _ _) (if_neg (ne_true_of_eq_false bad))))
        (((tableFault_sameRest copied).trans (placeAnswer_sameRest ..)).timers staged)

end Sys2Proof.Machine
end


section
/-! The clearing orders (O25) and the events of a link (O26). -/

namespace Sys2Proof.Machine

namespace Controller

/-! The window of Media Watch (R158). -/

/-- A new window takes its two limits from a readable Monitor Record. -/
theorem startWindow_readable {c : Controller} (good : c.tables.active.monitor.w0.good = true) :
    c.startWindow = c.setMedia { c.media with
      counted := 0, retried := 0, threshold := c.tables.active.monitor.threshold
      tripWindows := c.tables.active.monitor.tripWindows } := by
  simp [startWindow, good, testWord_good]

end Controller

open Controller in
/-- Settles O25: each clearing order is answered and clears its own. -/
theorem clearingOrdersClear : Obligations.ClearingOrdersClear := by
  intro ch f s timers c
  have taken : c.timersReadable = true := frameTaken_timers timers ch
  refine ⟨fun passes => ?_, fun lsa passes ops => ?_, fun passes ops => ?_, fun passes good => ?_⟩
  · exact accepted_gives (i := .clearDeferred ch f) (Eq.refl _) passes (Eq.refl _)
      (((placeAnswer_sameRest ..).trans (setDeferred_sameRest ..)).timers taken)
  · have operands : (Order.of .clearSuspect ch f).operands = some (.suspect lsa) := ops
    refine accepted_gives (i := .clearSuspect ch f) (Eq.refl _) passes ?_
      ((placeAnswer_sameRest (c.setMedia _) ..).timers taken)
    rw [acceptClearSuspect, operands]
    rfl
  · have operands : (Order.of .clearSuspect ch f).operands = some .suspectAll := ops
    refine accepted_gives (i := .clearSuspect ch f) (Eq.refl _) passes ?_
      ((placeAnswer_sameRest (c.setMedia _) ..).timers taken)
    rw [acceptClearSuspect, operands]
    rfl
  · refine accepted_gives (i := .clearMonitor ch f) (Eq.refl _) passes ?_
      ((placeAnswer_sameRest (c.setMedia _) ..).timers taken)
    exact congrArg (answerOrder · _ _) (startWindow_readable (c := c.setMedia
      { c.media with consecutive := 0, degraded := false }) good)

open Controller in
/-- Settles O26: each link event by the link's state. -/
theorem linkEventsMoveTheLink : Obligations.LinkEventsMoveTheLink := by
  intro ch cause s timers
  refine ⟨fun down => ?_, fun up => ?_, fun up => ?_, fun down => ?_, fun recovering running => ?_, fun idle => ?_⟩
  · refine gives_of_effect (i := .linkPresentRises ch) (if_pos (by simp [down])) ?_
    exact ((modPort_sameRest ..).trans (offer_sameRest ..)).timers timers
  · exact gives_of_effect (i := .linkPresentRises ch) (if_neg (by simp [up])) timers
  · refine gives_of_effect (i := .frameDiscarded ch cause) ((if_neg (by simp [up])).trans ?_)
      ((modPort_sameRest ..).timers timers)
    cases cause <;> rfl
  · exact gives_of_effect (i := .frameDiscarded ch cause) (if_pos (by simp [down])) timers
  · refine gives_of_effect (i := .escalationTimerExpiry ch) (if_pos ?_) ((modPort_sameRest ..).timers timers)
    simp [recovering, Option.isSome_iff_ne_none, running]
  · refine gives_of_effect (i := .escalationTimerExpiry ch) (if_neg ?_) timers
    rcases idle with link | stopped
    · simp [link]
    · simp [stopped]

end Sys2Proof.Machine
end


section
/-! The Drive Sequencer's shared steps, and SET-DRIVE-TARGET (O24). -/

namespace Sys2Proof.Machine

namespace Controller

/-! The Drive Record stands through the steps of the Sequencer (R153). -/

theorem timers_of_record {c d : Controller} (h : d.tables.active.drive = c.tables.active.drive)
    (timers : c.timersReadable = true) : d.timersReadable = true := by rwa [timersReadable, h]

theorem startSpindle_record (c : Controller) : c.startSpindle.tables.active.drive = c.tables.active.drive :=
  (readTimer_sameRest ((c.send .lockInterlock).send .spindleOn) ..).record

theorem tryStart_record (c : Controller) : c.tryStart.tables.active.drive = c.tables.active.drive := by
  unfold tryStart
  split
  · exact startSpindle_record c
  · rfl

theorem announce_record (c : Controller) : c.announce.tables.active.drive = c.tables.active.drive :=
  (offerBoth_sameRest ..).record

theorem enterStopped_record (c : Controller) : c.enterStopped.tables.active.drive = c.tables.active.drive :=
  (tryStart_record _).trans (announce_record _)

theorem readCartridgeLine_record (c : Controller) :
    c.readCartridgeLine.tables.active.drive = c.tables.active.drive := by
  unfold readCartridgeLine
  split
  · rfl
  · split
    · exact (fallbackEntry_sameRest ..).record
    · rfl

theorem enterCooling_record (c : Controller) : c.enterCooling.tables.active.drive = c.tables.active.drive := by
  have cooled := (readCartridgeLine_record _).trans (announce_record
    ((c.modDrive fun d => { d with state := .cooling, interlockLocked := false }).send .unlockInterlock))
  unfold enterCooling
  dsimp only
  split
  · exact (enterStopped_record _).trans cooled
  · exact cooled

theorem enterSpinningDown_tables (c : Controller) : c.enterSpinningDown.tables = c.tables := by
  unfold enterSpinningDown
  split <;> rfl

theorem leaveFaulted_record (c : Controller) : c.leaveFaulted.tables.active.drive = c.tables.active.drive := by
  unfold leaveFaulted
  split
  · exact enterCooling_record c
  · rw [enterSpinningDown_tables]

theorem offSequence_record (c : Controller) : c.offSequence.tables.active.drive = c.tables.active.drive := by
  unfold offSequence
  split
  · rfl
  · split
    · split <;> rfl
    · split
      · rw [enterSpinningDown_tables]
      · rfl
    · exact leaveFaulted_record c
    · rfl

/-! The records that wait on the drive are ended. -/

/-- A WAITING disk record. -/
def diskWaits (r : Record) : Bool := r.isDisk && r.state == .waiting

theorem endAllWaiting_answers {c : Controller} (s : c.sequenceSound) (ans : Record → Answer) :
    c.endAllWaiting ans none = c.takenOut (c.records.filter diskWaits) fun r => some (ans r) := by
  have step : (fun (d : Controller) (r : Record) => d.endWaiting ans none r) = fun d r =>
      if (r.state == .waiting) = true then d.leave r.seq (some (ans r)) else d := by
    funext d r
    unfold endWaiting
    cases r.state <;> rfl
  have picked : c.records.filter diskWaits =
      (c.records.filter (·.isDisk)).filter fun r => r.state == .waiting := by
    rw [List.filter_filter]
    exact List.filter_congr fun r _ => Bool.and_comm ..
  have fold : c.endAllWaiting ans none =
      (c.records.filter diskWaits).foldl (fun d r => d.leave r.seq (some (ans r))) c := by
    rw [endAllWaiting, step, picked, ← List.foldl_filter]
  rw [fold]
  refine foldl_takeOut_filter s fun r waits d found _ => ?_
  have waiting : r.state = .waiting := by simpa using (Bool.and_eq_true_iff.mp waits).2
  exact leave_eq_takeOut found (by simp [waiting]) (by simp [waiting]) _

/-! The off sequence (R133). -/

section

variable {c : Controller} (off : c.drive.targetOn = false)

include off

theorem offSequence_ready (state : c.drive.state = .ready) :
    c.offSequence = if c.flushDone && !c.drive.clearing then c.beginUnload false else c := by
  simp [offSequence, off, state]

theorem offSequence_parked (state : c.drive.state = .parked) :
    c.offSequence = if c.flushDone then c.enterSpinningDown else c := by
  simp [offSequence, off, state]

theorem offSequence_faulted (state : c.drive.state.isFaulted = true) : c.offSequence = c.leaveFaulted := by
  unfold offSequence
  rw [if_neg (ne_true_of_eq_false off)]
  split
  · rename_i h; rw [h] at state; exact nomatch state
  · rename_i h; rw [h] at state; exact nomatch state
  · rfl
  · rename_i h
    cases e : c.drive.state with
    | faulted f => exact absurd e (h f)
    | _ => rw [e] at state; exact nomatch state

theorem offSequence_moving
    (state : c.drive.state ∈ [.cooling, .stopped, .spinningUp, .loadingHeads, .unloading, .spinningDown]) :
    c.offSequence = c := by
  simp only [List.mem_cons, List.not_mem_nil, or_false] at state
  rcases state with h | h | h | h | h | h <;> simp [offSequence, off, h]

end

theorem enterSpinningDown_drive (c : Controller) : c.enterSpinningDown.drive =
    { c.drive with state := .spinningDown, spindleOn := false } := by
  unfold enterSpinningDown
  split
  · rfl
  · rename_i h
    simp only [modDrive_drive, Bool.not_eq_true] at h ⊢
    rw [← h]

/-- What differs at most in the Sequencer and in the commands it sends. -/
structure SameButDrive (c d : Controller) : Prop where
  ports : d.ports = c.ports
  work : d.work = c.work
  claims : d.claims = c.claims
  tables : d.tables = c.tables
  engine : d.engine = c.engine
  media : d.media = c.media

theorem SameButDrive.rfl {c : Controller} : SameButDrive c c := by constructor <;> exact Eq.refl _

theorem enterSpinningDown_same (c : Controller) : SameButDrive c c.enterSpinningDown := by
  unfold enterSpinningDown
  split <;> constructor <;> rfl

theorem beginUnload_same (c : Controller) (idle : Bool) : SameButDrive c (c.beginUnload idle) := by
  constructor <;> rfl

/-- Outside FAULTED the off sequence touches the Sequencer alone. -/
theorem offSequence_same {c : Controller} (sound : c.drive.state.isFaulted = false) :
    SameButDrive c c.offSequence ∧ c.offSequence.drive.targetOn = c.drive.targetOn := by
  unfold offSequence
  split
  · exact ⟨.rfl, rfl⟩
  · split
    · split
      · exact ⟨beginUnload_same .., rfl⟩
      · exact ⟨.rfl, rfl⟩
    · split
      · exact ⟨enterSpinningDown_same c, by rw [enterSpinningDown_drive]⟩
      · exact ⟨.rfl, rfl⟩
    · rename_i h
      rw [h] at sound
      exact nomatch sound
    · exact ⟨.rfl, rfl⟩

/-! Leaving FAULTED (R131). -/

theorem leaveFaulted_spinning {c : Controller} (h : c.drive.restedOff = false) :
    c.leaveFaulted = c.enterSpinningDown := by simp [leaveFaulted, h]

theorem leaveFaulted_cooling {c : Controller} (h : c.drive.restedOff = true) : c.leaveFaulted = c.enterCooling := by
  simp [leaveFaulted, h]

/-- The cartridge line is read into cartridge present. -/
theorem readCartridgeLine_drive (c : Controller) :
    c.readCartridgeLine.drive = { c.drive with cartridgePresent := c.drive.cartridgeLine } := by
  unfold readCartridgeLine
  split
  · rename_i h
    rw [beq_iff_eq.mp h]
  · split
    · rename_i h
      rw [(fallbackEntry_sameRest ..).drive, h]
      rfl
    · rename_i h
      exact congrArg (fun b => { c.drive with cartridgePresent := b }) (Bool.eq_false_iff.mpr h).symm

/-- STOPPED is entered, and the spindle stays off where the target is OFF. -/
theorem enterStopped_drive_off {c : Controller} (off : c.drive.targetOn = false) :
    c.enterStopped.drive = { c.drive with state := .stopped } := by
  have stopped : (c.modDrive fun d => { d with state := .stopped }).announce.drive =
      { c.drive with state := .stopped } := announce_drive _
  have stays : (c.modDrive fun d => { d with state := .stopped }).announce.drive.startDue = false := by
    rw [stopped, Sequencer.startDue, off]
    simp
  rw [enterStopped, tryStart, stays, if_neg Bool.false_ne_true, stopped]

/-- The drive as COOLING leaves it, with the target OFF. -/
theorem enterCooling_drive_off {c : Controller} (off : c.drive.targetOn = false) :
    c.enterCooling.drive = { c.drive with
      state := if c.drive.coolDown = none then .stopped else .cooling
      interlockLocked := false
      cartridgePresent := c.drive.cartridgeLine } := by
  have cooled : ((((c.modDrive fun d => { d with state := .cooling, interlockLocked := false }).send
      .unlockInterlock).announce).readCartridgeLine).drive =
      { c.drive with state := .cooling, interlockLocked := false, cartridgePresent := c.drive.cartridgeLine } := by
    rw [readCartridgeLine_drive, announce_drive]
    rfl
  unfold enterCooling
  dsimp only
  by_cases cool : c.drive.coolDown = none
  · rw [if_pos (by rw [cooled, cool]; rfl), enterStopped_drive_off (by rw [cooled, off]), cooled, if_pos cool]
  · rw [if_neg (by rw [cooled]; simpa using cool), cooled, if_neg cool]

/-! SET-DRIVE-TARGET. -/

section

variable {c : Controller} {o : Order} {on : Bool} (ops : o.operands = some (.target on))

include ops

theorem acceptTarget_same (h : on = c.drive.targetOn) : c.acceptTarget o = c.answerOrder o .done := by
  subst h
  rw [acceptTarget, ops]
  exact if_pos (beq_self_eq_true _)

theorem acceptTarget_on (h : on = true) (off : c.drive.targetOn = false) :
    c.acceptTarget o = (c.answerOrder o .done).targetOn := by
  subst h
  rw [acceptTarget, ops]
  have ne : ¬(true == (c.answerOrder o .done).drive.targetOn) = true := by
    rw [(answerOrder_sameRest ..).drive, off]
    simp
  exact (if_neg ne).trans (if_pos rfl)

theorem acceptTarget_off (h : on = false) (was : c.drive.targetOn = true) :
    c.acceptTarget o = (c.answerOrder o .done).targetOff := by
  subst h
  rw [acceptTarget, ops]
  have ne : ¬(false == (c.answerOrder o .done).drive.targetOn) = true := by
    rw [(answerOrder_sameRest ..).drive, was]
    simp
  exact (if_neg ne).trans (if_neg Bool.false_ne_true)

end

/-- The block with the target OFF and the WAITING disk records answered, before the off sequence (R133). -/
def flushing (c : Controller) : Controller :=
  (c.modDrive fun d => { d with targetOn := false }).endAllWaiting (fun r => r.answer .driveFault) none

theorem targetOff_eq (c : Controller) : c.targetOff = c.flushing.offSequence := rfl

theorem flushing_drive (c : Controller) : c.flushing.drive = { c.drive with targetOn := false } :=
  (endAllWaiting_sameRest ..).drive

theorem flushing_record (c : Controller) : c.flushing.tables.active.drive = c.tables.active.drive :=
  (endAllWaiting_sameRest ..).record

theorem flushing_eq {c : Controller} (s : c.sequenceSound) : c.flushing =
    (c.modDrive fun d => { d with targetOn := false }).takenOut (c.records.filter diskWaits)
      fun r => some (r.answer .driveFault) :=
  endAllWaiting_answers (c := c.modDrive fun d => { d with targetOn := false }) s _

/-- A WAITING record is neither ACTIVE nor LINGERING. -/
theorem flushing_anyIn {c : Controller} (s : c.sequenceSound) {st : RecState} (ne : st ≠ .waiting) :
    c.flushing.anyIn st = c.anyIn st := by
  have records : c.flushing.records = c.records.filter fun r => !diskWaits r := by
    rw [flushing_eq s]
    exact takenOut_filter_records (c.modDrive fun d => { d with targetOn := false }) ..
  have keeps : ∀ r : Record, r.state = st → diskWaits r = false := fun r h => by
    simp [diskWaits, h, ne]
  rw [Bool.eq_iff_iff, anyIn_eq_true, anyIn_eq_true, records]
  constructor
  · rintro ⟨r, hr, state⟩
    exact ⟨r, List.mem_of_mem_filter hr, state⟩
  · rintro ⟨r, hr, state⟩
    exact ⟨r, List.mem_filter.mpr ⟨hr, by rw [keeps r state]; rfl⟩, state⟩

theorem flushing_flushDone {c : Controller} (s : c.sequenceSound) : c.flushing.flushDone = true ↔
    c.anyIn .active = false ∧ c.anyIn .lingering = false := by
  simp [flushDone, flushing_anyIn s]

theorem targetOff_record (c : Controller) : c.targetOff.tables.active.drive = c.tables.active.drive :=
  (offSequence_record _).trans (flushing_record c)

end Controller

open Controller in
/-- Settles O24: the target kept, taken ON, and taken OFF in each state of the Sequencer. -/
theorem setDriveTargetTakesTheTarget : Obligations.SetDriveTargetTakesTheTarget := by
  intro ch f s on timers passes parsed answered
  have ops : (Order.of .setDriveTarget ch f).operands = some (.target on) := parsed
  have ready : answered.timersReadable = true := (placeAnswer_sameRest ..).timers (frameTaken_timers timers ch)
  have gives : ∀ {d}, (s.ctl.frameTaken ch).acceptTarget (.of .setDriveTarget ch f) = d →
      d.tables.active.drive = answered.tables.active.drive → Gives (.setDriveTarget ch f) s d := fun e record =>
    accepted_gives (i := .setDriveTarget ch f) (Eq.refl _) passes e (timers_of_record record ready)
  have off : on = false → s.ctl.drive.targetOn = true → Gives (.setDriveTarget ch f) s answered.targetOff :=
    fun h was => gives (acceptTarget_off (c := s.ctl.frameTaken ch) ops h was) (targetOff_record answered)
  refine ⟨fun same => gives (d := answered) (acceptTarget_same (c := s.ctl.frameTaken ch) ops same) (Eq.refl _),
    fun h was => ⟨fun waits => ?_, fun stopped cartridge supply cool => ?_⟩,
    fun h was sound up => ?_, fun h was faulted rested => ?_, fun h was faulted rested => ?_⟩
  · refine gives (d := answered.modDrive fun d => { d with targetOn := true })
      ((acceptTarget_on (c := s.ctl.frameTaken ch) ops h was).trans (if_neg fun due => waits ?_)) (Eq.refl _)
    simp only [Sequencer.startDue, Bool.and_eq_true, beq_iff_eq, Option.isNone_iff_eq_none] at due
    obtain ⟨⟨⟨⟨stopped, -⟩, cartridge⟩, supply⟩, cool⟩ := due
    exact ⟨stopped, cartridge, supply, cool⟩
  · refine gives (d := (answered.modDrive fun d => { d with targetOn := true }).startSpindle)
      ((acceptTarget_on (c := s.ctl.frameTaken ch) ops h was).trans (if_pos ?_)) (startSpindle_record _)
    have drive : (((s.ctl.frameTaken ch).answerOrder (.of .setDriveTarget ch f) .done).modDrive fun d =>
      { d with targetOn := true }).drive = { s.ctl.drive with targetOn := true } := rfl
    rw [drive]
    simp [Sequencer.startDue, stopped, cartridge, supply, cool]
  · intro flushed done
    have sound' : answered.sequenceSound := sound
    have drive : answered.flushing.drive = { s.ctl.drive with targetOn := false } := flushing_drive answered
    have leaving := flushing_eq sound'
    have finished : answered.flushing.flushDone = true ↔ done := flushing_flushDone sound'
    have target : answered.flushing.drive.targetOn = false := by rw [drive]
    obtain ⟨same, kept⟩ := offSequence_same (c := answered.flushing) (by rw [drive]; exact up)
    refine ⟨_, off h was, ?_, ?_, fun d => ?_, fun state clearing ended => ?_, fun state ended => ?_, fun stays => ?_, ?_,
      ?_, ?_, ?_⟩
    all_goals rw [targetOff_eq]
    · rw [kept, target]
    · rw [records, same.work]
      change answered.flushing.records = _
      rw [leaving]
      exact takenOut_filter_records (answered.modDrive fun d => { d with targetOn := false }) ..
    · rw [port, same.ports]
      change (answered.flushing.port d).ready = _
      rw [leaving]
      exact takenOut_ready (answered.modDrive fun d => { d with targetOn := false }) ..
    · have go : (answered.flushing.flushDone && !answered.flushing.drive.clearing) = true := by
        rw [finished.mpr ended, drive, clearing]
        rfl
      rw [offSequence_ready target (by rw [drive]; exact state), if_pos go]
      exact ⟨rfl, rfl, rfl⟩
    · rw [offSequence_parked target (by rw [drive]; exact state), if_pos (finished.mpr ended), enterSpinningDown_drive]
      exact ⟨rfl, rfl⟩
    · have still : answered.flushing.offSequence = answered.flushing := by
        rcases stays with waits | ⟨state, clearing⟩ | moving
        · have no : ¬answered.flushing.flushDone = true := mt finished.mp waits
          cases e : s.ctl.drive.state with
          | ready =>
            rw [offSequence_ready target (by rw [drive]; exact e), if_neg]
            simp [no]
          | parked => rw [offSequence_parked target (by rw [drive]; exact e), if_neg no]
          | faulted k => rw [e] at up; exact nomatch up
          | _ =>
            refine offSequence_moving target ?_
            rw [drive]
            simp [e]
        · rw [offSequence_ready target (by rw [drive]; exact state), if_neg]
          simp [drive, clearing]
        · exact offSequence_moving target (by rw [drive]; exact moving)
      rw [still, drive]
    · rw [same.claims, leaving]; rfl
    · rw [same.tables, leaving]; rfl
    · rw [same.engine, leaving]; rfl
    · rw [same.media, leaving]; rfl
  · have drive : answered.flushing.drive = { s.ctl.drive with targetOn := false } := flushing_drive answered
    have target : answered.flushing.drive.targetOn = false := by rw [drive]
    refine ⟨_, off h was, ?_⟩
    rw [targetOff_eq, offSequence_faulted target (by rw [drive]; exact faulted),
      leaveFaulted_spinning (by rw [drive]; exact rested), enterSpinningDown_drive, drive]
    exact ⟨rfl, rfl, rfl⟩
  · have drive : answered.flushing.drive = { s.ctl.drive with targetOn := false } := flushing_drive answered
    have target : answered.flushing.drive.targetOn = false := by rw [drive]
    refine ⟨_, off h was, ?_⟩
    rw [targetOff_eq, offSequence_faulted target (by rw [drive]; exact faulted),
      leaveFaulted_cooling (by rw [drive]; exact rested), enterCooling_drive_off target, drive]
    exact ⟨rfl, rfl, rfl, rfl, rfl, rfl⟩

end Sys2Proof.Machine
end


section
/-! SUPPORT. Claims dropped one after the other (R81): the notices to their holders, the waiters' CLAIMs that leave, and
the fallback entry (O44). -/

namespace Sys2Proof.Machine

/-! The Notice Queue of a port with its overflow flag. -/

/-- What a notice is judged against, and what it changes. -/
def Port.box (p : Port) : List Notice × Bool := (p.notices, p.overflow)

/-- The judgement of a notice reads the queue alone. -/
theorem Port.takeNotice_box {p q : Port} (h : p.box = q.box) (enabled : Bool) (n : Notice) :
    (p.takeNotice enabled n).box = (q.takeNotice enabled n).box := by
  cases p
  cases q
  simp only [box, Prod.mk.injEq] at h
  obtain ⟨rfl, rfl⟩ := h
  unfold takeNotice
  split
  · rfl
  · split
    · rfl
    · split <;> rfl

/-- The same for notices taken one after the other. -/
theorem Port.foldl_takeNotice_box (enabled : Notice → Bool) : ∀ (l : List Notice) {p q : Port}, p.box = q.box →
    (l.foldl (fun p n => p.takeNotice (enabled n) n) p).box = (l.foldl (fun p n => p.takeNotice (enabled n) n) q).box
  | [], _, _, h => h
  | n :: l, _, _, h => foldl_takeNotice_box enabled l (takeNotice_box h (enabled n) n)

theorem Port.foldl_takeNotice_ready (enabled : Notice → Bool) : ∀ (l : List Notice) (p : Port),
    (l.foldl (fun p n => p.takeNotice (enabled n) n) p).ready = p.ready
  | [], _ => rfl
  | n :: l, p => (foldl_takeNotice_ready enabled l _).trans (takeNotice_ready p (enabled n) n)

@[simp] theorem Port.leaveWith_box (p : Port) (seq : Nat) (ans : Option Answer) : (p.leaveWith seq ans).box = p.box := by
  simp [box]

namespace Controller

/-! What one claim is to its holder and its waiter. -/

/-- The CLAIM that waits on an extent. -/
def waiterRecord (c : Controller) (e : Nat) : Option Record :=
  ((c.claimAt e).bind (·.waiter)).bind fun w => c.claimWaiter w e

theorem waitersOn_eq (c : Controller) (l : List Nat) : c.waitersOn l = l.filterMap c.waiterRecord := rfl

/-- The enable set of a channel holds the notice's kind. -/
def enabled (c : Controller) (ch : Channel) (n : Notice) : Bool := (c.channelRecord ch).enables n.kind

theorem waiterRecord_some {c : Controller} {e : Nat} {r : Record} (h : c.waiterRecord e = some r) :
    r ∈ c.records ∧ r.state = .claimWait ∧ r.extent = some e := by
  simp only [waiterRecord, Option.bind_eq_some_iff] at h
  obtain ⟨w, -, found⟩ := h
  obtain ⟨there, state, -, extent⟩ := claimWaiter_some found
  exact ⟨there, state, extent⟩

theorem waiterRecord_of_none {c : Controller} {e : Nat} (h : c.claimAt e = none) : c.waiterRecord e = none := by
  simp [waiterRecord, h]

theorem waiterRecord_of_some {c : Controller} {e : Nat} {cl : Claim} (h : c.claimAt e = some cl) :
    c.waiterRecord e = cl.waiter.bind fun w => c.claimWaiter w e := by simp [waiterRecord, h]

/-- The block once the holder of a dropped claim has been told (R81). -/
def holderTold (c : Controller) (e : Nat) : Controller :=
  (c.setClaim e none).tellHolder offerUntested e ((c.claimAt e).bind (·.holder))

theorem holderTold_work (c : Controller) (e : Nat) : (c.holderTold e).work = c.work := by
  unfold holderTold
  cases (c.claimAt e).bind (·.holder) <;> rfl

/-- A dropped claim takes its waiter's CLAIM out of the Work List. -/
theorem dropClaim_eq {c : Controller} {e : Nat} {cl : Claim} (h : c.claimAt e = some cl) :
    c.dropClaim offerUntested e = match c.waiterRecord e with
      | none => c.holderTold e
      | some r => (c.holderTold e).takeOut r.seq (some (r.answer .revoked)) := by
  have holder : (c.claimAt e).bind (·.holder) = cl.holder := by rw [h, Option.bind_some]
  rw [dropClaim_of_some h, waiterRecord_of_some h, holderTold, holder]
  cases waiter : cl.waiter with
  | none => rfl
  | some w =>
    have same : ((c.setClaim e none).tellHolder offerUntested e cl.holder).claimWaiter w e = c.claimWaiter w e := by
      cases cl.holder <;> rfl
    rw [revokeWaiter, Option.bind_some]
    cases found : c.claimWaiter w e with
    | none => exact answerWaiter_of_none (same.trans found) _
    | some r => exact answerWaiter_of_some (same.trans found) _

/-- The port of a told holder takes CLAIM-LOST. -/
theorem holderTold_port (c : Controller) (e : Nat) (ch : Channel) : (c.holderTold e).port ch =
    (((c.heldBy ch [e]).map Notice.claimLost).foldl (fun p n => p.takeNotice (c.enabled ch n) n) (c.port ch)) := by
  unfold holderTold heldBy
  cases holder : (c.claimAt e).bind (·.holder) with
  | none => simp [holder, tellHolder]; rfl
  | some h =>
    by_cases own : h = ch
    · subst own
      simp only [holder, List.filter_cons, beq_self_eq_true, if_true, List.filter_nil, List.map_cons, List.map_nil,
        List.foldl_cons, List.foldl_nil]
      exact PerChannel.get_set_self ..
    · have ne : ¬(some h == some ch) = true := by simpa using own
      simp only [holder, List.filter_cons, if_neg ne, List.filter_nil, List.map_nil, List.foldl_nil]
      exact PerChannel.get_set_of_ne _ _ (Ne.symm own)

section

variable {c : Controller} (s : c.sequenceSound) (e : Nat)

include s

/-- The waiter's CLAIM leaves the Work List, and nothing else. -/
theorem dropClaim_records : (c.dropClaim offerUntested e).records =
    c.records.filter fun r => !(c.waitersOn [e]).contains r := by
  have picked : c.waitersOn [e] = (c.waiterRecord e).toList := by
    rw [waitersOn_eq, List.filterMap_cons]
    cases c.waiterRecord e <;> rfl
  rw [picked]
  cases h : c.claimAt e with
  | none =>
    rw [dropClaim_of_none h, waiterRecord_of_none h]
    exact (List.filter_eq_self.mpr fun _ _ => rfl).symm
  | some cl =>
    rw [dropClaim_eq h]
    have told : (c.holderTold e).records = c.records := congrArg WorkList.records (holderTold_work c e)
    cases found : c.waiterRecord e with
    | none =>
      rw [told]
      exact (List.filter_eq_self.mpr fun _ _ => rfl).symm
    | some q =>
      obtain ⟨there, -, -⟩ := waiterRecord_some found
      rw [takeOut_records, told]
      refine List.filter_congr fun r hr => ?_
      have iff : r.seq = q.seq ↔ r = q := ⟨s.eq_of_seq hr there, congrArg _⟩
      rw [Bool.eq_iff_iff]
      simp [iff]

/-- The waiter's CLAIM is answered REVOKED. -/
theorem dropClaim_ready (ch : Channel) : ((c.dropClaim offerUntested e).port ch).ready =
    (c.port ch).ready ++ ((c.waitersOn [e]).filter (·.channel == ch)).map (·.answer .revoked) := by
  have picked : c.waitersOn [e] = (c.waiterRecord e).toList := by
    rw [waitersOn_eq, List.filterMap_cons]
    cases c.waiterRecord e <;> rfl
  rw [picked]
  cases h : c.claimAt e with
  | none => simp [dropClaim_of_none h, waiterRecord_of_none h]
  | some cl =>
    rw [dropClaim_eq h]
    have told : ((c.holderTold e).port ch).ready = (c.port ch).ready := by
      rw [holderTold_port, Port.foldl_takeNotice_ready]
    cases found : c.waiterRecord e with
    | none => simp [told]
    | some q =>
      obtain ⟨there, -, -⟩ := waiterRecord_some found
      have still : (c.holderTold e).findRecord q.seq = some q := by
        rw [findRecord, records, holderTold_work]
        exact s.findRecord there
      by_cases own : q.channel = ch
      · subst own
        simp only [takeOut_port_self still, Port.leaveWith_ready, told]
        simp
      · simp only [takeOut_port_of_ne still _ (Ne.symm own), told]
        simp [own]

omit s in
/-- The holder is told. -/
theorem dropClaim_box (ch : Channel) : ((c.dropClaim offerUntested e).port ch).box =
    (((c.heldBy ch [e]).map Notice.claimLost).foldl (fun p n => p.takeNotice (c.enabled ch n) n) (c.port ch)).box := by
  cases h : c.claimAt e with
  | none =>
    have nobody : c.heldBy ch [e] = [] := by simp [heldBy, h]
    rw [dropClaim_of_none h, nobody]
    rfl
  | some cl =>
    rw [dropClaim_eq h, ← holderTold_port]
    cases found : c.waiterRecord e with
    | none => rfl
    | some q =>
      rcases takeOut_port (c.holderTold e) q.seq (some (q.answer .revoked)) ch with same | left
      · exact congrArg Port.box same
      · exact (congrArg Port.box left).trans (Port.leaveWith_box ..)

end

/-! Several claims dropped, in their order. -/

theorem dropClaim_claimAt_of_ne (c : Controller) {e n : Nat} (ne : n ≠ e) :
    (c.dropClaim offerUntested e).claimAt n = c.claimAt n := by
  rw [dropClaim_claimAt c (offer := offerUntested) fun _ _ _ => modPort_claims .., if_neg ne]

theorem dropClaim_sequenceSound {c : Controller} (s : c.sequenceSound) (e : Nat) :
    (c.dropClaim offerUntested e).sequenceSound :=
  s.sublist (dropClaim_stays c e).fewer (dropClaim_stays c e).nextSeq

/-- A dropped claim leaves the CLAIMs on the other extents. -/
theorem dropClaim_waiterRecord {c : Controller} (s : c.sequenceSound) {e n : Nat} (ne : n ≠ e) :
    (c.dropClaim offerUntested e).waiterRecord n = c.waiterRecord n := by
  have waiter : ∀ w, (c.dropClaim offerUntested e).claimWaiter w n = c.claimWaiter w n := fun w => by
    rw [claimWaiter, dropClaim_records s, List.find?_filter]
    refine List.find?_congr fun r hr => ?_
    by_cases waits : r.extent = some n
    · have out : r ∉ c.waitersOn [e] := fun there => by
        obtain ⟨m, hm, found⟩ := List.mem_filterMap.mp there
        obtain rfl := List.mem_singleton.mp hm
        obtain ⟨-, -, extent⟩ := waiterRecord_some found
        exact ne (Option.some.inj (waits.symm.trans extent))
      rw [List.contains_eq_mem, decide_eq_false out, Bool.not_false]
      simp only [true_and, Bool.decide_eq_true]
    · simp [waits]
  rw [waiterRecord, dropClaim_claimAt_of_ne c ne, waiterRecord]
  exact congrArg _ (funext waiter)

section

variable {e : Nat} {l : List Nat} (out : e ∉ l)

include out

theorem dropClaim_heldBy (c : Controller) (ch : Channel) :
    (c.dropClaim offerUntested e).heldBy ch l = c.heldBy ch l :=
  List.filter_congr fun n hn => by
    rw [dropClaim_claimAt_of_ne c (ne_of_mem_of_not_mem hn out)]

theorem dropClaim_waitersOn {c : Controller} (s : c.sequenceSound) :
    (c.dropClaim offerUntested e).waitersOn l = c.waitersOn l :=
  List.filterMap_congr fun _ hn => dropClaim_waiterRecord s (ne_of_mem_of_not_mem hn out)

end

theorem waitersOn_cons (c : Controller) (e : Nat) (l : List Nat) :
    c.waitersOn (e :: l) = c.waitersOn [e] ++ c.waitersOn l := by
  rw [waitersOn_eq, waitersOn_eq, waitersOn_eq, ← List.filterMap_append]
  rfl

theorem heldBy_cons (c : Controller) (ch : Channel) (e : Nat) (l : List Nat) :
    c.heldBy ch (e :: l) = c.heldBy ch [e] ++ c.heldBy ch l := by
  rw [heldBy, heldBy, heldBy, ← List.filter_append]
  rfl

/-- The claims of these extents dropped. -/
def dropEach (c : Controller) (l : List Nat) : Controller := l.foldl (fun c e => c.dropClaim offerUntested e) c

theorem dropEach_cons (c : Controller) (e : Nat) (l : List Nat) :
    c.dropEach (e :: l) = (c.dropClaim offerUntested e).dropEach l := rfl

/-- The waiters' CLAIMs leave. -/
theorem dropEach_records : ∀ (l : List Nat) {c : Controller}, c.sequenceSound → l.Nodup →
    (c.dropEach l).records = c.records.filter fun r => !(c.waitersOn l).contains r
  | [], c, _, _ => (List.filter_eq_self.mpr fun _ _ => rfl).symm
  | e :: l, c, s, nodup => by
    obtain ⟨out, nodup⟩ := List.nodup_cons.mp nodup
    rw [dropEach_cons, dropEach_records l (dropClaim_sequenceSound s e) nodup, dropClaim_waitersOn out s,
      dropClaim_records s, waitersOn_cons c e l, List.filter_filter]
    refine List.filter_congr fun r _ => ?_
    rw [Bool.eq_iff_iff]
    simp [and_comm]

/-- Each of them is answered REVOKED, in ascending extent number. -/
theorem dropEach_ready (ch : Channel) : ∀ (l : List Nat) {c : Controller}, c.sequenceSound → l.Nodup →
    ((c.dropEach l).port ch).ready =
      (c.port ch).ready ++ ((c.waitersOn l).filter (·.channel == ch)).map (·.answer .revoked)
  | [], c, _, _ => (List.append_nil _).symm
  | e :: l, c, s, nodup => by
    obtain ⟨out, nodup⟩ := List.nodup_cons.mp nodup
    rw [dropEach_cons, dropEach_ready ch l (dropClaim_sequenceSound s e) nodup, dropClaim_waitersOn out s,
      dropClaim_ready s, waitersOn_cons c e l, List.filter_append, List.map_append, List.append_assoc]

theorem dropClaim_enabled (c : Controller) (e : Nat) (ch : Channel) (n : Notice) :
    (c.dropClaim offerUntested e).enabled ch n = c.enabled ch n := by
  rw [enabled, channelRecord, dropClaim_tables c (offer := offerUntested) fun _ _ _ => modPort_tables ..]
  rfl

/-- Each holder is told. -/
theorem dropEach_box (ch : Channel) : ∀ (l : List Nat) {c : Controller}, l.Nodup →
    ((c.dropEach l).port ch).box =
      (((c.heldBy ch l).map Notice.claimLost).foldl (fun p n => p.takeNotice (c.enabled ch n) n) (c.port ch)).box
  | [], _, _ => rfl
  | e :: l, c, nodup => by
    obtain ⟨out, nodup⟩ := List.nodup_cons.mp nodup
    have same : (fun (p : Port) n => p.takeNotice ((c.dropClaim offerUntested e).enabled ch n) n) =
        fun p n => p.takeNotice (c.enabled ch n) n := by
      funext p n
      rw [dropClaim_enabled]
    rw [dropEach_cons, dropEach_box ch l nodup, dropClaim_heldBy out, heldBy_cons c ch e l, List.map_append,
      List.foldl_append, same]
    exact Port.foldl_takeNotice_box _ _ (dropClaim_box e ch)

theorem dropEach_deferred (l : List Nat) (c : Controller) : (c.dropEach l).work.deferred = c.work.deferred := by
  refine foldl_field (·.work.deferred) (fun c e => ?_) l c
  cases h : c.claimAt e with
  | none => rw [dropClaim_of_none h]
  | some cl =>
    rw [dropClaim_eq h]
    have told : (c.holderTold e).work.deferred = c.work.deferred := congrArg WorkList.deferred (holderTold_work c e)
    cases c.waiterRecord e with
    | none => exact told
    | some r => exact (takeOut_deferred ..).trans told

/-! A fallback entry (R153). -/

/-- The claims that a fallback entry drops: all of them, but none of them at a level-3 reset, when they cease (R82,
R84). -/
def droppedBy (reason : FallbackReason) : List Nat := if reason = .reset then [] else List.range 16

theorem droppedBy_nodup (reason : FallbackReason) : (droppedBy reason).Nodup := by
  unfold droppedBy
  split
  · exact .nil
  · exact List.nodup_range

/-- The ports and the Work List as the dropped claims leave them; at a level-3 reset, as they were. -/
theorem dropAllClaims_ports_work (c : Controller) (reason : FallbackReason) :
    (c.dropAllClaims reason).ports = (c.dropEach (droppedBy reason)).ports ∧
      (c.dropAllClaims reason).work = (c.dropEach (droppedBy reason)).work := by
  by_cases h : reason = .reset
  · rw [dropAllClaims, if_pos (by rw [h]; rfl), droppedBy, if_pos h]
    exact ⟨rfl, rfl⟩
  · rw [dropAllClaims, if_neg (by simpa using h), droppedBy, if_neg h]
    exact ⟨rfl, rfl⟩

section

variable (c : Controller) (reason : FallbackReason)

/-- The block after steps 1 to 4 of a fallback entry. -/
def formsTaken : Controller := c.setTables (c.tables.enterFallback reason)

theorem fallbackEntry_records :
    (c.fallbackEntry reason).records = ((c.formsTaken reason).dropEach (droppedBy reason)).records := by
  rw [fallbackEntry_eq, givePendingStop_eq]
  exact congrArg WorkList.records (dropAllClaims_ports_work (c.formsTaken reason) reason).2

theorem fallbackEntry_deferred : (c.fallbackEntry reason).work.deferred = c.work.deferred := by
  rw [fallbackEntry_eq, givePendingStop_eq]
  exact (congrArg WorkList.deferred (dropAllClaims_ports_work (c.formsTaken reason) reason).2).trans
    (dropEach_deferred _ (c.formsTaken reason))

/-- The fallback notice is the last that a port takes. -/
theorem fallbackEntry_port (ch : Channel) : (c.fallbackEntry reason).port ch =
    (((c.formsTaken reason).dropEach (droppedBy reason)).port ch).takeNotice true (.fallback reason) := by
  have ports : ((c.formsTaken reason).dropAllClaims reason).ports =
      ((c.formsTaken reason).dropEach (droppedBy reason)).ports :=
    (dropAllClaims_ports_work (c.formsTaken reason) reason).1
  have forms : ((c.formsTaken reason).dropAllClaims reason).tables = c.tables.enterFallback reason :=
    dropAllClaims_tables ..
  have enables : ∀ d : Channel, (((c.formsTaken reason).dropAllClaims reason).channelRecord d).enables
      (Notice.fallback reason).kind = true := fun d => by
    have record : ((c.formsTaken reason).dropAllClaims reason).channelRecord d = fallbackChannel := by
      rw [channelRecord, forms]
      cases d <;> rfl
    rw [record, fallbackChannel_enables]
  rw [fallbackEntry_eq, givePendingStop_eq, port, port, ← ports]
  cases ch with
  | a => exact congrArg (Port.takeNotice _ · _) (enables .a)
  | b => exact congrArg (Port.takeNotice _ · _) (enables .b)

/-- Under the fallback tables every notice is enabled. -/
theorem formsTaken_enabled (ch : Channel) (n : Notice) : (c.formsTaken reason).enabled ch n = true := by
  have record : (c.formsTaken reason).channelRecord ch = fallbackChannel := by cases ch <;> rfl
  rw [enabled, record, fallbackChannel_enables]

end

/-- A claim dropped under an offer of one's own. -/
theorem dropClaim_holder_waiter {c : Controller} {n : Nat} {cl : Claim} {h : Channel} (claimed : c.claimAt n = some cl)
    (holder : cl.holder = some h) (offer : Controller → Channel → Notice → Controller) :
    (cl.waiter = none → c.dropClaim offer n = offer (c.setClaim n none) h (.claimLost n)) ∧
    (cl.waiter = some h.other → c.dropClaim offer n =
      (offer (c.setClaim n none) h (.claimLost n)).answerWaiter h.other n .revoked) := by
  rw [dropClaim_of_some claimed, holder]
  exact ⟨fun waiter => by rw [waiter]; rfl, fun waiter => by rw [waiter]; rfl⟩

end Controller

open Controller in
/-- Settles O44: the forms of the tables, and the claims dropped before FALLBACK is offered. -/
theorem fallbackEntryTakesTheForms : Obligations.FallbackEntryTakesTheForms := by
  refine ⟨fun c reason sound => ?_, fun c n cl h claimed holder => dropClaim_holder_waiter claimed holder _⟩
  intro d keep dropped revoked
  have tables : d.tables = c.tables.enterFallback reason := fallbackEntry_tables ..
  have rest : c.SameRest d := fallbackEntry_sameRest ..
  have sound' : (c.formsTaken reason).sequenceSound := sound
  have nodup : dropped.Nodup := droppedBy_nodup reason
  have stays := fallbackEntry_stays c reason
  have left : d.records = c.records.filter (fun r => !revoked.contains r) :=
    (fallbackEntry_records c reason).trans (dropEach_records dropped sound' nodup)
  have kept : ∀ r ∈ c.records, r.state ≠ .claimWait → r ∈ d.records := fun r hr state => by
    rw [left]
    refine List.mem_filter.mpr ⟨hr, ?_⟩
    have out : r ∉ revoked := fun there => by
      obtain ⟨m, -, found⟩ := List.mem_filterMap.mp there
      obtain ⟨-, waits, -⟩ := waiterRecord_some (c := c) found
      exact state waits
    simp [out]
  refine ⟨by rw [tables]; rfl, by rw [tables]; rfl, fallbackEntry_channelRecord c reason, by rw [tables]; rfl,
    by rw [tables]; rfl, by rw [tables]; rfl, rest.record, rest.monitor, fallbackEntry_claimAt c reason,
    congrArg Engine.work (fallbackEntry_engine c reason), kept, fun r hr => stays.fewer.subset hr, rest.drive, rest.media,
    fallbackEntry_deferred c reason, rest.level3, left, fun ch => ⟨?_, ?_⟩⟩
  · rw [fallbackEntry_port, Port.takeNotice_ready]
    exact dropEach_ready ch dropped sound' nodup
  · intro offered p
    have box : (d.port ch).box = p.box := by
      have all : (fun (p : Port) n => p.takeNotice ((c.formsTaken reason).enabled ch n) n) =
          fun p n => p.takeNotice true n := by
        funext p n
        rw [formsTaken_enabled]
      have last : p = ((((c.heldBy ch dropped).map Notice.claimLost).foldl (fun (p : Port) n => p.takeNotice true n)
          (c.port ch)).takeNotice true (.fallback reason)) := by
        rw [show p = _ from List.foldl_append ..]
        rfl
      rw [fallbackEntry_port, last]
      refine Port.takeNotice_box ((dropEach_box ch dropped nodup).trans ?_) true _
      rw [all]
      rfl
    exact ⟨congrArg Prod.fst box, congrArg Prod.snd box⟩

end Sys2Proof.Machine
end


section
/-! The commit (O22): what its checks find, and what a commit makes of tables and claims. -/

namespace Sys2Proof.Machine

/-! The first index at which a test holds. -/

/-- A test that holds nowhere has no first index. -/
theorem firstIndex_eq_none {α : Type} {p : Nat → α → Bool} {l : List α} (h : ∀ i, ¬testHoldsAt p l i) :
    firstIndex p l = none := by
  cases e : firstIndex p l with
  | none => rfl
  | some i => exact absurd (firstIndex_eq_some_iff.mp e).1 (h i)

namespace TableSet

/-! The set positions (R147). -/

/-- The table and the words of the entry at a set position. -/
def entryAt (t : TableSet) (i : Nat) : Option (TableId × List TWord) :=
  if i < 2 then ((t.entries .channel)[i]?).map fun ws => (.channel, ws)
  else if i < 18 then ((t.entries .extent)[i - 2]?).map fun ws => (.extent, ws)
  else if i < 50 then ((t.entries .remap)[i - 18]?).map fun ws => (.remap, ws)
  else if i = 50 then some (.drive, t.drive.words)
  else if i = 51 then some (.monitor, t.monitor.words)
  else none

theorem entries_extent_length (t : TableSet) : (t.entries .extent).length = 16 := by simp [entries]

theorem entries_remap_length (t : TableSet) : (t.entries .remap).length = 32 := by simp [entries]

theorem allEntries_getElem? (t : TableSet) (i : Nat) : t.allEntries[i]? = (t.entryAt i).map (·.2) := by
  have channels : (t.entries .channel).length = 2 := rfl
  have drive : t.entries .drive = [t.drive.words] := rfl
  have monitor : t.entries .monitor = [t.monitor.words] := rfl
  have extents := t.entries_extent_length
  have remap := t.entries_remap_length
  have apply_map : ∀ (table : TableId) (o : Option (List TWord)), (o.map fun ws => (table, ws)).map (·.2) = o :=
    fun table o => by cases o <;> rfl
  simp only [entryAt, allEntries, List.getElem?_append, List.length_append, channels, extents, remap, drive, monitor,
    List.length_singleton]
  by_cases h2 : i < 2
  · simp only [h2, apply_map, if_true, show i < 18 by omega, show i < 50 by omega, show i < 51 by omega]
  · by_cases h18 : i < 18
    · simp only [h2, h18, apply_map, if_true, if_false, show i < 50 by omega, show i < 51 by omega]
    · by_cases h50 : i < 50
      · simp only [h2, h18, h50, apply_map, if_true, if_false, show i < 51 by omega]
      · by_cases e50 : i = 50
        · subst e50
          rfl
        · by_cases e51 : i = 51
          · subst e51
            rfl
          · simp only [h2, h18, h50, e50, e51, if_false, show ¬i < 51 by omega, Option.map_none]
            exact List.getElem?_eq_none (by rw [List.length_singleton]; omega)

/-! What each check looks for at a position. -/

/-- A word of the entry at a set position fails parity. -/
def damaged (t : TableSet) (i : Nat) : Prop := ∃ table ws, t.entryAt i = some (table, ws) ∧ ∃ w ∈ ws, w.good = false

/-- An extent with its boundaries crossed or a field out of range. -/
def crossed (t : TableSet) (i : Nat) : Prop := ∃ e, t.extents[i]? = some e ∧
  (e.valid = true ∧ e.lastLsa < e.firstLsa ∨ entryInRange .extent (e.words.map (·.value)) = false)

/-- A field of the entry at a set position is out of range; the extents apart. -/
def outOfRange (t : TableSet) (i : Nat) : Prop := ∃ table ws, t.entryAt i = some (table, ws) ∧ table ≠ .extent ∧
  entryInRange table (ws.map (·.value)) = false

theorem damagedTest_iff (t : TableSet) (i : Nat) :
    testHoldsAt (fun _ ws => !wordsGood ws) t.allEntries i ↔ t.damaged i := by
  have bad : ∀ ws : List TWord, (!wordsGood ws) = true ↔ ∃ w ∈ ws, w.good = false := fun ws => by
    simp [wordsGood]
  simp only [testHoldsAt, allEntries_getElem?, Option.map_eq_some_iff, Prod.exists, bad]
  exact ⟨fun ⟨ws, ⟨table, _, h, rfl⟩, w⟩ => ⟨table, _, h, w⟩, fun ⟨table, ws, h, w⟩ => ⟨ws, ⟨table, ws, h, rfl⟩, w⟩⟩

theorem crossedTest_iff (t : TableSet) (i : Nat) :
    testHoldsAt (fun _ (e : ExtentEntry) => (e.valid && decide (e.lastLsa < e.firstLsa)) ||
      !wordsInRange .extent e.words) t.extents.toList i ↔ t.crossed i := by
  simp [testHoldsAt, crossed, wordsInRange, Vector.getElem?_toList]

/-- A field of an entry of one table is out of range. -/
def entryOut (t : TableSet) (table : TableId) (k : Nat) : Prop :=
  testHoldsAt (fun _ ws => !wordsInRange table ws) (t.entries table) k

theorem entryOut_iff {t : TableSet} {table : TableId} {k : Nat} : t.entryOut table k ↔
    ∃ ws, (t.entries table)[k]? = some ws ∧ entryInRange table (ws.map (·.value)) = false := by
  simp [entryOut, testHoldsAt, wordsInRange]

theorem entryOut_lt {t : TableSet} {table : TableId} {k : Nat} (h : t.entryOut table k) :
    k < (t.entries table).length := by
  obtain ⟨ws, there, -⟩ := h
  exact (List.getElem?_eq_some_iff.mp there).1

/-- The set positions of the tables other than the extents. -/
theorem outOfRange_iff {t : TableSet} {i : Nat} : t.outOfRange i ↔ i < 2 ∧ t.entryOut .channel i ∨
    (18 ≤ i ∧ i < 50) ∧ t.entryOut .remap (i - 18) ∨ i = 50 ∧ t.entryOut .drive 0 ∨ i = 51 ∧ t.entryOut .monitor 0 := by
  simp only [outOfRange, entryOut_iff, entryAt]
  by_cases h2 : i < 2
  · have : ¬18 ≤ i ∧ i ≠ 50 ∧ i ≠ 51 := by omega
    simp [h2, this]
  · by_cases h18 : i < 18
    · have : ¬18 ≤ i ∧ i ≠ 50 ∧ i ≠ 51 := by omega
      simp [h2, h18, this]
    · by_cases h50 : i < 50
      · have : 18 ≤ i ∧ i ≠ 50 ∧ i ≠ 51 := by omega
        simp [h2, h18, h50, this]
      · by_cases e50 : i = 50
        · subst e50
          simp [entries]
        · by_cases e51 : i = 51
          · subst e51
            simp [entries]
          · simp [h2, h18, h50, e50, e51]

/-- The first failure of one table, as a set position. -/
theorem badEntry_eq_some {t : TableSet} {table : TableId} {base k : Nat} (h : t.entryOut table k)
    (least : ∀ m, m < k → ¬t.entryOut table m) : t.badEntry table base = some (base + k) := by
  rw [badEntry, firstIndex_eq_some_iff.mpr ⟨h, least⟩, Option.map_some]

theorem badEntry_eq_none {t : TableSet} {table : TableId} (base : Nat) (h : ∀ m, ¬t.entryOut table m) :
    t.badEntry table base = none := by
  rw [badEntry, firstIndex_eq_none h, Option.map_none]

/-- Check 2 without the extents. -/
def otherBounds (t : TableSet) : Option Nat :=
  t.badEntry .channel 0 <|> t.badEntry .remap 18 <|> t.badEntry .drive 50 <|> t.badEntry .monitor 51

theorem boundsAt_eq (t : TableSet) : t.boundsAt = (t.badExtent <|> t.otherBounds) := rfl

section

variable {t : TableSet} {i : Nat}

/-- Channel Records below the position are in range. -/
theorem no_channelOut (low : 2 ≤ i) (least : ∀ k, k < i → ¬t.outOfRange k) (m : Nat) : ¬t.entryOut .channel m :=
  fun h => by
    have lt : m < 2 := entryOut_lt h
    exact least m (by omega) (outOfRange_iff.mpr (.inl ⟨lt, h⟩))

/-- Remap positions below the position are in range. -/
theorem no_remapOut (low : 50 ≤ i) (least : ∀ k, k < i → ¬t.outOfRange k) (m : Nat) : ¬t.entryOut .remap m :=
  fun h => by
    have lt : m < 32 := (entryOut_lt h).trans_eq t.entries_remap_length
    exact least (18 + m) (by omega) (outOfRange_iff.mpr (.inr (.inl ⟨by omega, by rwa [Nat.add_sub_cancel_left]⟩)))

/-- The Drive Record below the position is in range. -/
theorem no_driveOut (low : 51 ≤ i) (least : ∀ k, k < i → ¬t.outOfRange k) (m : Nat) : ¬t.entryOut .drive m :=
  fun h => by
    have lt : m < 1 := entryOut_lt h
    obtain rfl : m = 0 := by omega
    exact least 50 (by omega) (outOfRange_iff.mpr (.inr (.inr (.inl ⟨rfl, h⟩))))

/-- The Monitor Record below the position is in range. -/
theorem no_monitorOut (low : 52 ≤ i) (least : ∀ k, k < i → ¬t.outOfRange k) (m : Nat) : ¬t.entryOut .monitor m :=
  fun h => by
    have lt : m < 1 := entryOut_lt h
    obtain rfl : m = 0 := by omega
    exact least 51 (by omega) (outOfRange_iff.mpr (.inr (.inr (.inr ⟨rfl, h⟩))))

/-- The first set position out of range. -/
theorem otherBounds_eq_some (h : t.outOfRange i) (least : ∀ k, k < i → ¬t.outOfRange k) : t.otherBounds = some i := by
  rcases outOfRange_iff.mp h with ⟨lt, out⟩ | ⟨⟨low, lt⟩, out⟩ | ⟨rfl, out⟩ | ⟨rfl, out⟩
  · have first := badEntry_eq_some (base := 0) out fun m hm k =>
      least m hm (outOfRange_iff.mpr (.inl ⟨by omega, k⟩))
    simp [otherBounds, first]
  · have first := badEntry_eq_some (base := 18) out fun m hm k => least (18 + m) (by omega)
      (outOfRange_iff.mpr (.inr (.inl ⟨by omega, by rwa [Nat.add_sub_cancel_left]⟩)))
    simp [otherBounds, badEntry_eq_none 0 (no_channelOut (by omega) least), first]
    omega
  · have first := badEntry_eq_some (base := 50) out fun m hm => absurd hm (Nat.not_lt_zero m)
    simp [otherBounds, badEntry_eq_none 0 (no_channelOut (by omega) least),
      badEntry_eq_none 18 (no_remapOut (by omega) least), first]
  · have first := badEntry_eq_some (base := 51) out fun m hm => absurd hm (Nat.not_lt_zero m)
    simp [otherBounds, badEntry_eq_none 0 (no_channelOut (by omega) least),
      badEntry_eq_none 18 (no_remapOut (by omega) least), badEntry_eq_none 50 (no_driveOut (by omega) least), first]

theorem otherBounds_eq_none (h : ∀ k, ¬t.outOfRange k) : t.otherBounds = none := by
  have least : ∀ k, k < 52 → ¬t.outOfRange k := fun k _ => h k
  simp [otherBounds, badEntry_eq_none 0 (no_channelOut (by omega) least),
    badEntry_eq_none 18 (no_remapOut (by omega) least), badEntry_eq_none 50 (no_driveOut (by omega) least),
    badEntry_eq_none 51 (no_monitorOut (by omega) least)]

end

/-! The checks in their order. -/

section

variable {t : TableSet}

theorem damagedAt_eq_none (h : ∀ i, ¬t.damaged i) : t.damagedAt = none :=
  firstIndex_eq_none fun i k => h i ((damagedTest_iff t i).mp k)

theorem commitFailure_damaged {i : Nat} (h : t.damaged i) (least : ∀ k, k < i → ¬t.damaged k) :
    t.commitFailure = some (.stageDamaged, some i) := by
  have first : t.damagedAt = some i := (firstIndex_eq_some_iff_of t.damagedTest_iff i).mpr ⟨h, least⟩
  rw [commitFailure, first]

variable (good : ∀ i, ¬t.damaged i)

include good

theorem commitFailure_crossed {i : Nat} (h : t.crossed i) (least : ∀ k, k < i → ¬t.crossed k) :
    t.commitFailure = some (.bounds, some i) := by
  have first : t.badExtent = some i := (firstIndex_eq_some_iff_of t.crossedTest_iff i).mpr ⟨h, least⟩
  rw [commitFailure, damagedAt_eq_none good, boundsAt_eq, first]
  rfl

variable (straight : ∀ i, ¬t.crossed i)

include straight

omit good in
theorem boundsAt_of_straight : t.boundsAt = t.otherBounds := by
  have no : t.badExtent = none := firstIndex_eq_none fun i k => straight i ((crossedTest_iff t i).mp k)
  rw [boundsAt_eq, no]
  cases t.otherBounds <;> rfl

theorem commitFailure_outOfRange {i : Nat} (h : t.outOfRange i) (least : ∀ k, k < i → ¬t.outOfRange k) :
    t.commitFailure = some (.bounds, some i) := by
  rw [commitFailure, damagedAt_eq_none good, boundsAt_of_straight straight, otherBounds_eq_some h least]

variable (range : ∀ i, ¬t.outOfRange i)

include range

omit good in
theorem boundsAt_eq_none : t.boundsAt = none := by
  rw [boundsAt_of_straight straight, otherBounds_eq_none range]

theorem commitFailure_overlap {i : Nat} (h : t.overlapAt = some i) : t.commitFailure = some (.overlap, some i) := by
  rw [commitFailure, damagedAt_eq_none good, boundsAt_eq_none straight range, h]

variable (apart : t.overlapAt = none)

include apart

theorem commitFailure_remapOrder {i : Nat} (h : t.remapOrderAt = some i) :
    t.commitFailure = some (.remapOrder, some i) := by
  rw [commitFailure, damagedAt_eq_none good, boundsAt_eq_none straight range, apart, h]

variable (ordered : t.remapOrderAt = none)

include ordered

theorem commitFailure_spareReused {i : Nat} (h : t.spareReusedAt = some i) :
    t.commitFailure = some (.spareReused, some i) := by
  rw [commitFailure, damagedAt_eq_none good, boundsAt_eq_none straight range, apart, ordered, h]

theorem commitFailure_manager (h : t.spareReusedAt = none) : t.commitFailure =
    if t.channels.a.management = true ∨ t.channels.b.management = true then none else some (.noManager, none) := by
  rw [commitFailure, damagedAt_eq_none good, boundsAt_eq_none straight range, apart, ordered, h]
  simp only [Bool.or_eq_true]

end

end TableSet

end Sys2Proof.Machine
end


section
/-! The quiet point (O22, second half): the claims compared, and the staged set made active. -/

namespace Sys2Proof.Machine

/-- A set that passes the commit checks has no failing word. -/
theorem TableSet.good_of_commitFailure {t : TableSet} (h : t.commitFailure = none) : t.good = true := by
  have undamaged : t.damagedAt = none := by
    cases e : t.damagedAt with
    | none => rfl
    | some i => rw [commitFailure, e] at h; exact nomatch h
  refine List.all_eq_true.mpr fun ws hws => ?_
  obtain ⟨i, hi⟩ := List.mem_iff_getElem?.mp hws
  by_contra bad
  have damaged : ∃ i, testHoldsAt (fun _ ws => !wordsGood ws) t.allEntries i := ⟨i, ws, hi, by simpa using bad⟩
  simp only [damagedAt, firstIndex, Option.map_eq_none_iff, List.find?_eq_none] at undamaged
  have := undamaged (ws, i) (List.mem_zipIdx_iff_getElem?.mpr hi)
  exact this (by simpa using bad)

/-- The words of a good set's records are good. -/
theorem TableSet.good_words {t : TableSet} (h : t.good = true) :
    (∀ ch, (t.channels.get ch).w2.good = true) ∧ t.drive.w2.good = true ∧ t.drive.w3.good = true := by
  have each := List.all_eq_true.mp h
  have channels : ∀ ch, wordsGood (t.channels.get ch).words = true := fun ch => by
    refine each _ ?_
    cases ch <;> simp [allEntries, entries, PerChannel.get]
  have drive : wordsGood t.drive.words = true := each _ (by simp [allEntries, entries])
  simp only [wordsGood, ChannelRecord.words, DriveRecord.words, List.all_cons, List.all_nil, Bool.and_eq_true] at channels drive
  obtain ⟨-, -, w2, w3, -⟩ := drive
  exact ⟨fun ch => (channels ch).2.2.1, w2, w3⟩

namespace Controller

/-! Notices under readable enable sets. -/

/-- Both enable sets can be read. -/
def enablesReadable (c : Controller) : Prop := ∀ ch, c.noticesReadable ch = true

theorem offer_eq_untested {c : Controller} (h : c.enablesReadable) (ch : Channel) (n : Notice) :
    c.offer ch n = c.offerUntested ch n := by rw [offer_readable (h ch), offerUntested]

theorem offerBoth_eq_untested {c : Controller} (h : c.enablesReadable) (n : Notice) :
    c.offerBoth n = (c.offerUntested .a n).offerUntested .b n := by
  rw [offerBoth, offer_eq_untested h, offer_eq_untested (c := c.offerUntested .a n) h]

/-- A notice offered to both channels is judged at each port. -/
theorem offerBoth_port {c : Controller} (h : c.enablesReadable) (n : Notice) (ch : Channel) :
    (c.offerBoth n).port ch = (c.port ch).takeNotice (c.enabled ch n) n := by
  rw [offerBoth_eq_untested h]
  cases ch <;> rfl

/-- Nothing but the two ports takes it. -/
theorem offerBoth_rest {c : Controller} (h : c.enablesReadable) (n : Notice) :
    c.offerBoth n = { c with ports := (c.offerBoth n).ports } := by
  rw [offerBoth_eq_untested h]
  rfl

/-- A claim dropped under readable enable sets. -/
theorem dropClaim_readable {c : Controller} (h : c.enablesReadable) (e : Nat) :
    c.dropClaim offer e = c.dropClaim offerUntested e := by
  cases claimed : c.claimAt e with
  | none => rw [dropClaim_of_none claimed, dropClaim_of_none claimed]
  | some cl =>
    rw [dropClaim_of_some claimed, dropClaim_of_some claimed]
    have told : (c.setClaim e none).tellHolder offer e cl.holder =
        (c.setClaim e none).tellHolder offerUntested e cl.holder := by
      cases cl.holder with
      | none => rfl
      | some ch => exact offer_eq_untested (c := c.setClaim e none) h ch _
    rw [told]

/-! The claims compared (R80). -/

/-- The claim of an extent number survives the commit of these tables. -/
def claimStays (t : TableStore) (n : Nat) : Bool :=
  match t.active.extent? n, t.staged.extent? n with
  | some a, some st => claimSurvives a st
  | _, _ => false

theorem claimStays_iff {t : TableStore} {n : Nat} : claimStays t n = true ↔
    ∃ st a, t.staged.extents[n]? = some st ∧ t.active.extents[n]? = some a ∧ st.valid = true ∧ st.exclusive = true ∧
      a.w1.good = true ∧ a.w2.good = true ∧ a.firstLsa = st.firstLsa ∧ a.lastLsa = st.lastLsa := by
  unfold claimStays TableSet.extent?
  split
  · rename_i a st active staged
    simp only [active, staged, claimSurvives, ExtentEntry.claimable, Bool.and_eq_true, beq_iff_eq, and_assoc,
      Option.some.injEq, exists_and_left, ↓existsAndEq, true_and]
  · rename_i none_there
    refine iff_of_false Bool.false_ne_true fun ⟨st, a, staged, active, _⟩ => none_there a st active staged

theorem compareClaim_readable {c : Controller} (h : c.enablesReadable) {n : Nat} (low : n < 16) :
    c.compareClaim n = if claimStays c.tables n then c else c.dropClaim offerUntested n := by
  have active : c.tables.active.extent? n = some c.tables.active.extents[n] := Vector.getElem?_eq_getElem low
  have staged : c.tables.staged.extent? n = some c.tables.staged.extents[n] := Vector.getElem?_eq_getElem low
  rw [compareClaim, claimStays, active, staged]
  dsimp only
  rw [dropClaim_readable h]

/-- The claims that do not survive are dropped, in ascending extent number (R81). -/
theorem foldl_compareClaim : ∀ (l : List Nat) {c : Controller}, c.enablesReadable → (∀ n ∈ l, n < 16) →
    l.foldl (·.compareClaim ·) c = c.dropEach (l.filter fun n => !claimStays c.tables n)
  | [], _, _, _ => rfl
  | n :: l, c, h, low => by
    have rest := fun m hm => low m (List.mem_cons_of_mem n hm)
    rw [List.foldl_cons, compareClaim_readable h (low n (List.mem_cons_self ..))]
    by_cases stays : claimStays c.tables n = true
    · rw [if_pos stays, foldl_compareClaim l h rest, List.filter_cons_of_neg (by simp [stays])]
    · have tables : (c.dropClaim offerUntested n).tables = c.tables :=
        dropClaim_tables c (offer := offerUntested) (fun _ _ _ => modPort_tables ..) n
      have h' : (c.dropClaim offerUntested n).enablesReadable := fun ch => by
        rw [noticesReadable, channelRecord, tables]
        exact h ch
      rw [if_neg stays, foldl_compareClaim l h' rest, tables, List.filter_cons_of_pos (by simp [stays]), dropEach_cons]

/-- The extents whose claims a commit drops. -/
def droppedByCommit (c : Controller) : List Nat := (List.range 16).filter fun n => !claimStays c.tables n

theorem droppedByCommit_nodup (c : Controller) : c.droppedByCommit.Nodup := List.nodup_range.filter _

theorem mem_droppedByCommit {c : Controller} {n : Nat} : n ∈ c.droppedByCommit ↔ n < 16 ∧ claimStays c.tables n = false := by
  simp [droppedByCommit]

theorem dropEach_tables (l : List Nat) (c : Controller) : (c.dropEach l).tables = c.tables :=
  foldl_field (·.tables) (fun c e => dropClaim_tables c (offer := offerUntested) (fun _ _ _ => modPort_tables ..) e) l c

theorem dropEach_engine (l : List Nat) (c : Controller) : (c.dropEach l).engine = c.engine :=
  foldl_field (·.engine) (fun c e => dropClaim_engine c (offer := offerUntested) (fun _ _ _ => modPort_engine ..) e) l c

theorem dropEach_sameRest (l : List Nat) (c : Controller) : c.SameRest (c.dropEach l) :=
  SameRest.foldl (fun c e => dropClaim_sameRest c _ (fun _ _ _ => offerUntested_sameRest ..) e) l c

theorem dropEach_claimAt (l : List Nat) (c : Controller) (n : Nat) :
    (c.dropEach l).claimAt n = if n ∈ l then none else c.claimAt n :=
  foldl_dropClaim_claimAt (offer := offerUntested) (fun _ _ _ => modPort_claims ..) n l c

/-! The staged set made active (R150). -/

/-- The tables of a committed block. -/
def committedTables (c : Controller) : TableStore :=
  { staged := c.tables.staged, active := c.tables.staged, mode := .normal, remapUnconfirmed := false }

/-- The claims dropped, and the tables changed. -/
def retabled (c : Controller) : Controller := (c.dropEach c.droppedByCommit).setTables c.committedTables

theorem commitTables_readable {c : Controller} (h : c.enablesReadable) :
    c.commitTables = c.retabled.makeClaims.offerBoth .tablesCommitted := by
  have store : c.commitStore = c.retabled := by
    rw [commitStore, foldl_compareClaim _ h fun n hn => List.mem_range.mp hn]
    dsimp only
    rw [dropEach_tables]
    rfl
  rw [commitTables_eq, store]

/-- The claim of an entry of the new active set (R80). -/
theorem retabled_claimAt {c : Controller} {n : Nat} {st : ExtentEntry} (there : c.tables.staged.extents[n]? = some st) :
    c.retabled.makeClaims.claimAt n = claimAfterCommit st (if claimStays c.tables n then c.claimAt n else none) := by
  obtain ⟨low, entry⟩ := Vector.getElem?_eq_some_iff.mp there
  have dropped := dropEach_claimAt c.droppedByCommit c n
  have made : c.retabled.makeClaims.claimAt n =
      claimAfterCommit st ((c.dropEach c.droppedByCommit).claimAt n) := by
    have claims : c.retabled.claims[n] = (c.dropEach c.droppedByCommit).claimAt n := by
      simp [claimAt, retabled, low]
    rw [← claims, ← entry]
    simp [claimAt, makeClaims, low, retabled, committedTables]
  rw [made, dropped]
  cases stays : claimStays c.tables n
  · rw [if_pos (mem_droppedByCommit.mpr ⟨low, stays⟩), if_neg Bool.false_ne_true]
  · rw [if_neg fun k => absurd (mem_droppedByCommit.mp k).2 (by simp [stays]), if_pos rfl]

/-- A claim that survives stands as it was, every other claimable entry begins in FREE (R80). -/
theorem committed_claim {c : Controller} {n : Nat} {st a : ExtentEntry}
    (hst : c.tables.staged.extents[n]? = some st) (ha : c.tables.active.extents[n]? = some a) :
    let cl := claimAfterCommit st (if claimStays c.tables n then c.claimAt n else none)
    let same := (∃ cl, c.claimAt n = some cl) ∧ a.w1.good = true ∧ a.w2.good = true ∧ a.firstLsa = st.firstLsa ∧
      a.lastLsa = st.lastLsa
    (st.valid = true ∧ st.exclusive = true → (same → cl = c.claimAt n) ∧ (¬same → cl = some .free)) ∧
    (¬(st.valid = true ∧ st.exclusive = true) → cl = none) := by
  intro cl same
  have claimable : st.claimable = true ↔ st.valid = true ∧ st.exclusive = true := Bool.and_eq_true_iff
  have stays : claimStays c.tables n = true ↔ st.valid = true ∧ st.exclusive = true ∧ a.w1.good = true ∧
      a.w2.good = true ∧ a.firstLsa = st.firstLsa ∧ a.lastLsa = st.lastLsa := by
    rw [claimStays_iff, hst, ha]
    simp only [Option.some.injEq, exists_and_left, ↓existsAndEq, true_and]
  refine ⟨fun entry => ⟨fun ⟨⟨held, claimed⟩, rest⟩ => ?_, fun differs => ?_⟩, fun out => ?_⟩
  · rw [show cl = _ from if_pos (claimable.mpr entry), if_pos (stays.mpr ⟨entry.1, entry.2, rest⟩), claimed]
    rfl
  · rw [show cl = _ from if_pos (claimable.mpr entry)]
    by_cases k : claimStays c.tables n = true
    · obtain ⟨-, -, rest⟩ := stays.mp k
      cases claimed : c.claimAt n with
      | none => rw [if_pos k]; rfl
      | some held => exact absurd ⟨⟨held, claimed⟩, rest⟩ differs
    · rw [if_neg k]
      rfl
  · exact if_neg (mt claimable.mp out)

/-! The quiet point (R55). -/

/-- The oldest COMMIT-WAIT record is the one that the quiet point takes. -/
theorem find_commitWait {c : Controller} (s : c.sequenceSound) {r : Record} (hr : r ∈ c.records)
    (waits : r.state = .commitWait) (oldest : ∀ q ∈ c.records, q.state = .commitWait → r.seq ≤ q.seq) :
    c.records.find? (·.state == .commitWait) = some r := by
  cases found : c.records.find? (·.state == .commitWait) with
  | none => exact absurd (beq_iff_eq.mpr waits) (List.find?_eq_none.mp found r hr)
  | some q =>
    obtain ⟨state, before, after, split, younger⟩ := List.find?_eq_some_iff_append.mp found
    have le := oldest q (by rw [split]; simp) (beq_iff_eq.mp state)
    have sorted := List.pairwise_map.mp s.1
    rw [split] at hr sorted
    rcases List.mem_append.mp hr with hr | hr
    · exact absurd waits (by simpa using younger r hr)
    · rcases List.mem_cons.mp hr with rfl | hr
      · rfl
      · have := (List.pairwise_cons.mp (List.pairwise_append.mp sorted).2.1).1 r hr
        omega

theorem quietPoint_active {c : Controller} (h : c.anyIn .active = true) : c.quietPoint = c := if_pos h

theorem quietPoint_commit {c : Controller} {r : Record} (h : c.anyIn .active = false)
    (found : c.records.find? (·.state == .commitWait) = some r) : c.quietPoint = c.commit r := by
  rw [quietPoint, if_neg (ne_true_of_eq_false h), found]

theorem commit_failed {c : Controller} {reason : CommitReason} {index : Option Nat}
    (h : c.tables.staged.commitFailure = some (reason, index)) (r : Record) : c.commit r =
      c.leave r.seq (some { r.answer .commitFailed with reason := some reason, index := index }) := by
  rw [commit, h]

theorem commit_passed {c : Controller} (h : c.tables.staged.commitFailure = none) (r : Record) :
    c.commit r = c.commitTables.leave r.seq (some (r.answer .committed)) := by
  rw [commit, h]

section

variable {c : Controller} (readable : c.enablesReadable) (passed : c.tables.staged.commitFailure = none)

include passed

theorem retabled_readable : c.retabled.makeClaims.enablesReadable := fun ch =>
  (TableSet.good_words (TableSet.good_of_commitFailure passed)).1 ch

include readable

/-- What a commit makes of the block, its ports and claims apart (R150). -/
theorem commitTables_rest : c.commitTables.work = (c.dropEach c.droppedByCommit).work ∧
    c.commitTables.tables = c.committedTables ∧ c.commitTables.engine = c.engine ∧ c.commitTables.drive = c.drive ∧
    c.commitTables.media = c.media ∧ ∀ n, c.commitTables.claimAt n = c.retabled.makeClaims.claimAt n := by
  have rest := dropEach_sameRest c.droppedByCommit c
  rw [commitTables_readable readable, offerBoth_rest (retabled_readable passed)]
  exact ⟨rfl, rfl, dropEach_engine .., rest.drive, rest.media, fun _ => rfl⟩

/-- Each port has taken what the dropped claims gave it, and TABLES-COMMITTED under its new enable set. -/
theorem commitTables_port (ch : Channel) : c.commitTables.port ch =
    ((c.dropEach c.droppedByCommit).port ch).takeNotice ((c.tables.staged.channels.get ch).enables 3)
      .tablesCommitted := by
  rw [commitTables_readable readable, offerBoth_port (retabled_readable passed)]
  rfl

variable (s : c.sequenceSound) {r : Record} (hr : r ∈ c.records) (waits : r.state = .commitWait)

include s hr waits

/-- The COMMIT that waits is no CLAIM, and stays until it is answered. -/
theorem commitTables_found : c.commitTables.findRecord r.seq = some r := by
  obtain ⟨work, -⟩ := commitTables_rest readable passed
  have stays : Stays c (c.dropEach c.droppedByCommit) := Stays.foldl dropClaim_stays _ c
  have sound : (c.dropEach c.droppedByCommit).sequenceSound := s.sublist stays.fewer stays.nextSeq
  have there : r ∈ (c.dropEach c.droppedByCommit).records := stays.stays s r hr (by simp [waits])
  rw [findRecord, records, work]
  exact sound.findRecord there

theorem commit_eq_takeOut : c.commit r = c.commitTables.takeOut r.seq (some (r.answer .committed)) := by
  rw [commit_passed passed]
  exact leave_eq_takeOut (commitTables_found readable passed s hr waits) (by simp [waits]) (by simp [waits]) _

end

end Controller

open Controller TableSet in
/-- Settles O22: the COMMIT-WAIT record, the checks in their order, and the commit at the quiet point. -/
theorem commitWaitsAndCommitsAtTheQuietPoint : Obligations.CommitWaitsAndCommitsAtTheQuietPoint := by
  refine ⟨fun ch f s timers passes => ?_, fun t => ?_, fun s r timers sound hr waits oldest => ?_⟩
  · exact accepted_gives (i := .commit ch f) (Eq.refl _) passes (Eq.refl _)
      (((addRecord_sameRest ..).trans (modWork_sameRest ..)).timers (frameTaken_timers timers ch))
  · intro entry bad badExtent badOther first
    refine ⟨fun i ⟨h, least⟩ => commitFailure_damaged h least, fun good =>
      ⟨fun i ⟨h, least⟩ => commitFailure_crossed good h least, fun straight =>
        ⟨fun i ⟨h, least⟩ => commitFailure_outOfRange good straight h least, fun range =>
          ⟨fun i h => commitFailure_overlap good straight range h, fun apart =>
            ⟨fun i h => commitFailure_remapOrder good straight range apart h, fun ordered =>
              ⟨fun i h => commitFailure_spareReused good straight range apart ordered h, fun h =>
                commitFailure_manager good straight range apart ordered h⟩⟩⟩⟩⟩⟩
  · have found := find_commitWait sound hr waits oldest
    refine ⟨fun active => gives_of_effect (i := .commitQuietPoint) (quietPoint_active active) timers, fun idle =>
      ⟨fun reason index failed => ?_, fun passed readableA readableB => ?_⟩⟩
    · exact gives_of_effect (i := .commitQuietPoint) ((quietPoint_commit idle found).trans (commit_failed failed r))
        ((leave_sameRest ..).timers timers)
    · have readable : s.ctl.enablesReadable := fun ch => by cases ch <;> assumption
      have eq := commit_eq_takeOut readable passed sound hr waits
      obtain ⟨work, tables, engine, drive, media, claims⟩ := commitTables_rest readable passed
      have there := commitTables_found readable passed sound hr waits
      have rest := takeOut_sameRest s.ctl.commitTables r.seq (some (r.answer .committed))
      have wordsGood := good_words (good_of_commitFailure passed)
      refine ⟨s.ctl.commitTables.takeOut r.seq (some (r.answer .committed)), ?_, ?_, fun n st a hst ha => ?_, ?_, ?_, ?_,
        ?_, ?_, ?_⟩
      · refine gives_of_effect (i := .commitQuietPoint) ((quietPoint_commit idle found).trans eq) ?_
        rw [rest.timersReadable, timersReadable, tables]
        exact Bool.and_eq_true_iff.mpr wordsGood.2
      · rw [takeOut_tables, tables]; rfl
      · have claim : (s.ctl.commitTables.takeOut r.seq (some (r.answer .committed))).claimAt n =
            claimAfterCommit st (if claimStays s.ctl.tables n then s.ctl.claimAt n else none) := by
          rw [claimAt, takeOut_claims]
          exact (claims n).trans (retabled_claimAt hst)
        rw [claim]
        exact committed_claim hst ha
      · intro survives dropped ascending picked revoked
        have list : dropped = s.ctl.droppedByCommit := by
          refine List.Pairwise.eq_of_mem_iff ascending (List.pairwise_lt_range.filter _) fun n => ?_
          rw [picked, mem_droppedByCommit, ← Bool.not_eq_true, claimStays_iff]
        have nodup := droppedByCommit_nodup s.ctl
        subst list
        refine ⟨?_, fun ch => ⟨?_, ?_⟩⟩
        · rw [takeOut_records, records, work]
          change List.filter _ (s.ctl.dropEach _).records = _
          rw [dropEach_records _ sound nodup, List.filter_filter]
        · have ready : (s.ctl.commitTables.port ch).ready = (s.ctl.port ch).ready ++
              (revoked.filter (·.channel == ch)).map (·.answer .revoked) := by
            rw [commitTables_port readable passed, Port.takeNotice_ready, dropEach_ready ch _ sound nodup]
          rw [← ready]
          by_cases own : r.channel = ch
          · rw [if_pos own, ← own, takeOut_port_self there]
            exact Port.leaveWith_ready ..
          · rw [if_neg own, takeOut_port_of_ne there _ (Ne.symm own), List.append_nil]
        · rw [takeOut_notices, commitTables_port readable passed]
          refine congrArg Prod.fst (Port.takeNotice_box ?_ _ _)
          rw [dropEach_box ch _ nodup, List.foldl_map, List.foldl_map]
          rfl
      · rw [takeOut_commitPending there, waits]
        exact Bool.and_false _
      · rw [takeOut_deferred, work, dropEach_deferred]
      · rw [takeOut_engine, engine]
      · rw [rest.drive, drive]
      · rw [rest.media, media]

end Sys2Proof.Machine
end


section
/-! Media Watch (O43) and inbound frames (O60). -/

namespace Sys2Proof.Machine

/-- An entry after a report of its LSA: SOFT never hides a harder failure (R162, R163). -/
theorem Suspect.update_eq (e : Suspect) (kind : SuspectKind) (ch : Channel) : e.update kind ch =
    { e with kind := if kind = .soft ∧ e.kind ≠ .soft then e.kind else kind
             count := min (e.count + 1) 15, channel := ch } := by
  have merge : e.kind.merge kind = if kind = .soft ∧ e.kind ≠ .soft then e.kind else kind := by
    simp [SuspectKind.merge]
  rw [update, merge]

namespace Controller

section

variable {c : Controller} {lsa : Nat} (kind : SuspectKind) (ch : Channel)

theorem reportSuspect_listed (h : ∃ e ∈ c.media.suspects, e.lsa = lsa) : c.reportSuspect lsa kind ch = c.setMedia
    { c.media with suspects := c.media.suspects.map fun e => if e.lsa = lsa then e.update kind ch else e } := by
  have any : c.media.suspects.any (·.lsa == lsa) = true := by simpa using h
  rw [reportSuspect]
  dsimp only
  rw [if_pos any]
  simp only [beq_iff_eq]

variable (new : ∀ e ∈ c.media.suspects, e.lsa ≠ lsa)

include new

theorem reportSuspect_added (room : c.media.suspects.length < 8) : c.reportSuspect lsa kind ch =
    (c.setMedia { c.media with suspects := c.media.suspects ++
      [{ lsa := lsa, kind := kind, count := 1, channel := ch }] }).offerBoth (.suspectAdded lsa) := by
  have any : ¬c.media.suspects.any (·.lsa == lsa) = true := by simpa using new
  rw [reportSuspect]
  dsimp only
  rw [if_neg any, if_pos (show c.media.suspects.length < Config.suspectCapacity from room)]

theorem reportSuspect_full (full : 8 ≤ c.media.suspects.length) : c.reportSuspect lsa kind ch =
    c.setMedia { c.media with suspectOverflow := true } := by
  have any : ¬c.media.suspects.any (·.lsa == lsa) = true := by simpa using new
  rw [reportSuspect]
  dsimp only
  rw [if_neg any, if_neg (show ¬c.media.suspects.length < Config.suspectCapacity from Nat.not_lt.mpr full)]

end

/-- A window whose Monitor Record fails takes the defaults after the table fault (R140, R159). -/
theorem startWindow_unreadable {c : Controller} (bad : c.tables.active.monitor.w0.good = false) :
    c.startWindow = c.tableFault.setMedia
      { c.media with counted := 0, retried := 0, threshold := 4, tripWindows := 3 } := by
  rw [startWindow]
  dsimp only
  rw [testWord_bad c bad, (tableFault_sameRest c).media, bad]
  rfl

/-! A counted read (R158). -/

/-- The retried reads of the window with this one. -/
def retriedWith (c : Controller) (retried : Bool) : Nat := if retried then c.media.retried + 1 else c.media.retried

section

variable {c : Controller} {retried : Bool}

theorem countRead_within (h : c.media.counted + 1 < 64) : c.countRead retried =
    c.setMedia { c.media with counted := c.media.counted + 1, retried := c.retriedWith retried } := by
  rw [countRead]
  dsimp only
  rw [if_pos (show c.media.counted + 1 < Config.windowReads from h)]
  cases retried <;> rfl

variable (full : 64 ≤ c.media.counted + 1)

include full

/-- The last read of a window closes it. -/
theorem countRead_closes : c.countRead retried =
    (if (c.media.judgeWindow (c.retriedWith retried)).2 = true then
      (c.setMedia { c.media with consecutive := (c.media.judgeWindow (c.retriedWith retried)).1 }).trip
    else c.setMedia { c.media with consecutive := (c.media.judgeWindow (c.retriedWith retried)).1 }).startWindow := by
  have reads : c.media.retried + flag retried = c.retriedWith retried := by cases retried <;> rfl
  rw [countRead]
  dsimp only
  rw [if_neg (show ¬c.media.counted + 1 < Config.windowReads from Nat.not_lt.mpr full), reads]

theorem countRead_sound (low : c.retriedWith retried ≤ c.media.threshold) :
    c.countRead retried = (c.setMedia { c.media with consecutive := 0 }).startWindow := by
  have judged : c.media.judgeWindow (c.retriedWith retried) = (0, false) := if_neg (Nat.not_lt.mpr low)
  rw [countRead_closes full, judged]
  rfl

variable (high : c.media.threshold < c.retriedWith retried)

include high

theorem countRead_bad (few : c.media.consecutive + 1 < c.media.tripWindows) : c.countRead retried =
    (c.setMedia { c.media with consecutive := c.media.consecutive + 1 }).startWindow := by
  have judged : c.media.judgeWindow (c.retriedWith retried) = (c.media.consecutive + 1, false) :=
    (if_pos high).trans (if_neg (Nat.not_le.mpr few))
  rw [countRead_closes full, judged]
  rfl

theorem countRead_trips (many : c.media.tripWindows ≤ c.media.consecutive + 1) : c.countRead retried =
    ((c.setMedia { c.media with consecutive := 0, degraded := true }).offerBoth .mediaDegrading).startWindow := by
  have judged : c.media.judgeWindow (c.retriedWith retried) = (0, true) := (if_pos high).trans (if_pos many)
  rw [countRead_closes full, judged]
  rfl

end

end Controller

open Controller in
/-- Settles O43: the Suspect List by what stands in it, the window by its Monitor Record, a counted read by the window
it closes. -/
theorem mediaWatchCountsAndLists : Obligations.MediaWatchCountsAndLists := by
  refine ⟨fun c lsa kind ch => ⟨fun listed => ?_, fun new => ⟨reportSuspect_added kind ch new,
    reportSuspect_full kind ch new⟩⟩, fun c => ⟨startWindow_readable, startWindow_unreadable⟩, fun c retried =>
    ⟨countRead_within, fun full => ⟨countRead_sound full, countRead_bad full, countRead_trips full⟩⟩⟩
  rw [reportSuspect_listed kind ch listed]
  simp only [Suspect.update_eq]

end Sys2Proof.Machine
end


section
/-! The Engine: the work in hand, the ends of the ACTIVE period and the sector boundaries (O41, O42). -/

namespace Sys2Proof.Machine

/-- The failing LSA of a record that is no FORMAT-TRACK: its first sector not complete. -/
theorem Record.failingLsa_of_sectors {r : Record} (h : ∀ cylinder head fill, r.job ≠ .formatTrack cylinder head fill) :
    r.failingLsa = some (r.job.start + r.done) := by
  unfold failingLsa
  split
  · rename_i e
    exact absurd e (h _ _ _)
  · rfl

theorem Record.failingLsa_formatTrack {r : Record} {cylinder head : Nat} {fill : Word}
    (h : r.job = .formatTrack cylinder head fill) : r.failingLsa = none := by rw [failingLsa, h]

/-- The code of a hard error (R97). -/
def Job.hardCode : Job → AnswerCode
  | .formatTrack _ _ _ | .seek _ => .driveFault
  | _ => .short

theorem Job.hardCode_of_count {j : Job} (h : j.count ≠ 0) :
    j.hardCode = .short ∧ ∀ cylinder head fill, j ≠ .formatTrack cylinder head fill := by
  cases j with
  | read | write | verify => exact ⟨rfl, nofun⟩
  | _ => exact absurd rfl h

namespace Controller

/-! What a change of the Engine's record leaves to be found. -/

theorem findRecord_setWork (c : Controller) (x : Option Work) (n : Nat) :
    (c.setWork x).findRecord n = c.findRecord n := rfl

theorem findRecord_modRecord {c : Controller} {n : Nat} {r : Record} (f : Record → Record)
    (found : c.findRecord n = some r) (keeps : ∀ q : Record, (f q).seq = q.seq) :
    (c.modRecord n f).findRecord n = some (f r) := by
  have step : ∀ q : Record, ((if q.seq == n then f q else q).seq == n) = (q.seq == n) := fun q => by
    by_cases h : q.seq == n <;> simp [h, keeps]
  have pred : ((fun q : Record => q.seq == n) ∘ fun q => if q.seq == n then f q else q) = fun q => q.seq == n :=
    funext step
  change (c.records.map fun q => if q.seq == n then f q else q).find? (·.seq == n) = _
  rw [List.find?_map, pred, show c.records.find? (·.seq == n) = some r from found]
  simp [seq_of_findRecord found]

section

variable {c : Controller} {w : Work} {r : Record} (hw : c.engine.work = some w) (hr : c.findRecord w.seq = some r)

include hw hr

/-! A hard error, a stop and a boundary (R97, R102, R86). -/

theorem hardError_eq (kind : ErrorKind) : c.hardError kind = c.endActive r.job.hardCode (some kind) r.failingLsa := by
  rw [hardError, withActive_eq _ hw hr]
  cases e : r.job <;> rfl

theorem endByStop_fallback : c.endByStop .fallback = c.endActive .revoked (some .tableFault) r.failingLsa :=
  withActive_eq _ hw hr

theorem endByStop_level2 (sender : Channel) : c.endByStop (.level2 sender) = c.endActive .aborted none none :=
  withActive_eq _ hw hr

theorem boundary_last (h : r.job.count ≤ r.done) : c.boundary = c.endActive .done none none :=
  (withActive_eq _ hw hr).trans (if_pos h)

theorem boundary_stopped {st : Stop} (h : ¬r.job.count ≤ r.done) (stop : w.stop = some st) :
    c.boundary = c.endByStop st := by
  rw [boundary, withActive_eq _ hw hr, if_neg h, stop]

theorem boundary_next (h : ¬r.job.count ≤ r.done) (stop : w.stop = none) : c.boundary = c.beginSector := by
  rw [boundary, withActive_eq _ hw hr, if_neg h, stop]

/-- The block with one more sector done. -/
theorem completeSector_eq :
    c.completeSector = (c.modRecord w.seq fun q => { q with done := q.done + 1 }).boundary := by
  rw [completeSector, withActive_eq _ hw hr, seq_of_findRecord hr]

/-! The end of the ACTIVE period (R99, R110, R175). -/

/-- An early-marked write that is written leaves with no answer. -/
theorem endActive_written (early : r.early = true) (kind : Option ErrorKind) (lsa : Option Nat) :
    c.endActive .done kind lsa = (c.setWork none).leave r.seq none :=
  (withActive_eq _ hw hr).trans ((if_pos early).trans (if_pos rfl))

theorem endActive_failed (early : r.early = true) {code : AnswerCode} (failed : code ≠ .done)
    (kind : Option ErrorKind) (lsa : Option Nat) :
    c.endActive code kind lsa = (c.setWork none).failEarly r (deferredKind code kind) (r.job.start + r.done) :=
  (withActive_eq _ hw hr).trans ((if_pos early).trans (if_neg (by simpa using failed)))

variable (late : r.early = false)

include late

theorem endActive_silent (silent : r.silent = true) (code : AnswerCode) (kind : Option ErrorKind)
    (lsa : Option Nat) : c.endActive code kind lsa = (c.setWork none).leave r.seq none :=
  (withActive_eq _ hw hr).trans ((if_neg (ne_true_of_eq_false late)).trans (if_pos silent))

variable (loud : r.silent = false) (code : AnswerCode) (kind : Option ErrorKind) (lsa : Option Nat)

include loud

/-- The end of a record that is answered: RESET, delivery, or its own answer. -/
theorem endActive_answered : c.endActive code kind lsa =
    if r.job.func == .read && c.level3.isSome then
      (c.setWork none).leave r.seq (some (activeAnswer w r .reset none none))
    else if r.job.func == .read && (code == .done || code == .short) && decide (0 < r.done) then
      (c.setWork none).deliver r (activeAnswer w r code kind lsa)
    else (c.setWork none).leave r.seq (some (activeAnswer w r code kind lsa)) :=
  (withActive_eq _ hw hr).trans
    ((if_neg (ne_true_of_eq_false late)).trans (if_neg (ne_true_of_eq_false loud)))

theorem endActive_reset (read : r.job.func = .read) (level3 : c.level3 ≠ none) : c.endActive code kind lsa =
    (c.setWork none).leave r.seq (some (activeAnswer w r .reset none none)) := by
  rw [endActive_answered hw hr late loud, if_pos]
  simp [read, Option.isSome_iff_ne_none, level3]

theorem endActive_delivers (read : r.job.func = .read) (level3 : c.level3 = none)
    (outcome : code = .done ∨ code = .short) (some : 0 < r.done) : c.endActive code kind lsa =
    (c.setWork none).deliver r (activeAnswer w r code kind lsa) := by
  rw [endActive_answered hw hr late loud, if_neg (by simp [level3]), if_pos]
  simp [read, outcome, some]

theorem endActive_plain
    (h : r.job.func ≠ .read ∨ c.level3 = none ∧ (code ≠ .done ∧ code ≠ .short ∨ r.done = 0)) :
    c.endActive code kind lsa = (c.setWork none).leave r.seq (some (activeAnswer w r code kind lsa)) := by
  rw [endActive_answered hw hr late loud, if_neg, if_neg]
  · rcases h with other | ⟨-, ⟨done, short⟩ | none⟩
    · simp [other]
    · simp [done, short]
    · simp [none]
  · rcases h with other | ⟨level3, -⟩
    · simp [other]
    · simp [level3]

end

end Controller

open Controller in
/-- Settles O41: a hard error and a stop by the job, a complete sector by what is left of the range. -/
theorem sectorBoundariesHardErrorsAndStops : Obligations.SectorBoundariesHardErrorsAndStops := by
  intro c w r kind hw hr next
  have counted : next.findRecord w.seq = some { r with done := r.done + 1 } := findRecord_modRecord _ hr fun _ => rfl
  have working : next.engine.work = some w := hw
  have completes : c.completeSector = next.boundary := completeSector_eq hw hr
  refine ⟨fun count => ?_, fun lsa seek => ?_, fun cylinder head fill format => ?_, endByStop_level2 hw hr,
    fun last => completes.trans (boundary_last working counted last), fun more => ?_⟩
  · obtain ⟨code, sectors⟩ := Job.hardCode_of_count count
    rw [hardError_eq hw hr, endByStop_fallback hw hr, Record.failingLsa_of_sectors sectors, code]
    exact ⟨rfl, rfl⟩
  · rw [hardError_eq hw hr, Record.failingLsa_of_sectors (by simp [seek]), seek]
    rfl
  · rw [hardError_eq hw hr, endByStop_fallback hw hr, Record.failingLsa_formatTrack format, format]
    exact ⟨rfl, rfl⟩
  · have left : ¬({ r with done := r.done + 1 } : Record).job.count ≤ ({ r with done := r.done + 1 } : Record).done :=
      Nat.not_le.mpr more
    exact ⟨fun st stop => completes.trans (boundary_stopped working counted left stop),
      fun stop => completes.trans (boundary_next working counted left stop)⟩

open Controller in
/-- Settles O42: the three ends of an early-marked write, the silent record, the three ends of an answered one, and the
deferred error record of a failure. -/
theorem activePeriodEnds : Obligations.ActivePeriodEnds := by
  refine ⟨?_, fun c r kind lsa => ?_⟩
  · intro c w r code kind lsa hw hr d answer
    refine ⟨fun early => ⟨?_, ?_, ?_⟩, fun late silent => endActive_silent hw hr late silent ..,
      fun late loud => ⟨?_, ?_, ?_⟩⟩
    · rintro rfl
      exact endActive_written hw hr early ..
    · rintro k (rfl | rfl) rfl
      all_goals exact endActive_failed hw hr early (by decide) ..
    · rintro (rfl | rfl)
      all_goals
        rw [endActive_failed hw hr early (by decide)]
        cases kind <;> rfl
    · exact endActive_reset hw hr late loud code kind lsa
    · exact endActive_delivers hw hr late loud code kind lsa
    · exact endActive_plain hw hr late loud code kind lsa
  · refine ⟨fun none => ?_, fun d there => ?_⟩
    · rw [failEarly, none]
      rfl
    · rw [failEarly, there]
      rfl

end Sys2Proof.Machine
end


section
/-! Translation and positioning (O33, O34), and the Drive Record through the Engine's steps. -/

namespace Sys2Proof.Machine

/-! Translation (R6, R7, R9, R10). -/

section

variable {lsa : Nat} {e : RemapEntry} {es : List RemapEntry}

theorem translate_bad (bad : e.good = false) : translate lsa (e :: es) = none := by simp [translate, bad]

theorem translate_direct (good : e.good = true) (stops : e.used = false ∨ lsa < e.lsa) :
    translate lsa (e :: es) = some (directLocation lsa) := by
  by_cases used : e.used = true
  · have less : lsa < e.lsa := stops.resolve_left (by simp [used])
    simp [translate, good, used, less]
  · simp [translate, good, used]

theorem translate_spare (good : e.good = true) (used : e.used = true) (eq : e.lsa = lsa) :
    translate lsa (e :: es) = some (spareLocation e.spare) := by simp [translate, good, used, eq]

theorem translate_skip (good : e.good = true) (used : e.used = true) (less : e.lsa < lsa) :
    translate lsa (e :: es) = translate lsa es := by
  simp [translate, good, used, Nat.not_lt.mpr less.le, less.ne]

end

/-- Positions with a smaller LSA do not stop the translation. -/
theorem translate_append {lsa : Nat} {rest : List RemapEntry} : ∀ {before : List RemapEntry},
    (∀ p ∈ before, p.good = true ∧ p.used = true ∧ p.lsa < lsa) →
    translate lsa (before ++ rest) = translate lsa rest
  | [], _ => rfl
  | e :: before, h => by
    obtain ⟨good, used, less⟩ := h e (List.mem_cons_self ..)
    rw [List.cons_append, translate_skip good used less]
    exact translate_append fun p hp => h p (List.mem_cons_of_mem _ hp)

/-- Settles O33: the smaller positions are passed over, and the one that stops it decides. -/
theorem translationReadsTheRemapTable : Obligations.TranslationReadsTheRemapTable := by
  intro lsa e before rest smaller
  have skip : ∀ rest, translate lsa (before ++ rest) = translate lsa rest := fun _ => translate_append smaller
  refine ⟨?_, fun good stops => (skip _).trans (translate_direct good stops),
    fun good used eq => (skip _).trans (translate_spare good used eq), fun bad => (skip _).trans (translate_bad bad)⟩
  have whole := skip []
  rwa [List.append_nil] at whole

namespace Controller

/-! Positioning (R86 to R88, R95, R96). -/

section

variable {c : Controller} {w : Work} {r : Record} (hw : c.engine.work = some w) (hr : c.findRecord w.seq = some r)

include hw hr

theorem positioned_eq : c.positioned = match r.job with
    | .seek _ => c.endActive .done none none
    | .formatTrack _ head _ => (c.setWork (some { w with phase := .awaitingIndex })).send (.selectHead head)
    | _ => (c.setWork (some { w with phase := .searching 0 })).send
        (.selectHead ((w.inHand.map (·.loc.head)).getD 0)) := by
  have head : w.location.head = (w.inHand.map (·.loc.head)).getD 0 := by
    cases e : w.inHand <;> simp [Work.location, e, directLocation]
  rw [positioned, withActive_eq _ hw hr]
  cases e : r.job with
  | seek lsa => rfl
  | formatTrack cylinder hd fill => simp only [Work.head, e]
  | _ => simp only [Work.head, e, head]

theorem positionAt_recalibrates (target : Nat) (pending : c.engine.recalPending = true) :
    c.positionAt target = (c.setWork (some { w with phase := .recalibrating target true })).send .recalibrate :=
  (withActive_eq _ hw hr).trans (if_pos pending)

theorem positionAt_seeks {target : Nat} (clear : c.engine.recalPending = false) (ne : c.engine.cylinder ≠ target) :
    c.positionAt target = (c.setWork (some { w with phase := .seeking target })).send (.seek target) :=
  (withActive_eq _ hw hr).trans ((if_neg (ne_true_of_eq_false clear)).trans (if_pos (bne_iff_ne.mpr ne)))

theorem positionAt_there {target : Nat} (clear : c.engine.recalPending = false) (eq : c.engine.cylinder = target) :
    c.positionAt target = c.positioned :=
  (withActive_eq _ hw hr).trans ((if_neg (ne_true_of_eq_false clear)).trans (if_neg (by simp [eq])))

theorem beginSector_translated {loc : Location}
    (h : translate (r.job.start + r.done) c.tables.active.remap.toList = some loc) : c.beginSector =
      (c.setWork (some { w with
        inHand := some { lsa := r.job.start + r.done, loc := loc }, retry := 0, recovery := false, rewrite := false
        purpose := r.job.purpose
        unconfirmed := w.unconfirmed || c.tables.remapUnconfirmed })).positionAt loc.cylinder := by
  rw [beginSector, withActive_eq _ hw hr]
  dsimp only
  rw [h]

theorem beginSector_untranslated
    (h : translate (r.job.start + r.done) c.tables.active.remap.toList = none) : c.beginSector =
      (c.setWork (some { w with unconfirmed := true })).tableFault.endActive .revoked (some .tableFault)
        (some (r.job.start + r.done)) := by
  rw [beginSector, withActive_eq _ hw hr]
  dsimp only
  rw [h]

end

end Controller

open Controller in
/-- Settles O34: the work by the job, the sector by its translation, the position by the mark and the cylinder. -/
theorem sectorBeginsWithTranslationAndPositioning : Obligations.SectorBeginsWithTranslationAndPositioning := by
  refine ⟨?_, ?_⟩
  · intro c r verify started
    refine ⟨fun cylinder head fill format => ?_, fun other => ?_⟩
    · rw [startWork, format]
      rfl
    · rw [startWork]
      split
      · rename_i e
        exact absurd e (other _ _ _)
      · rfl
  · intro c w r loc target hw hr
    refine ⟨fun found => ?_, beginSector_untranslated hw hr, positionAt_recalibrates hw hr target,
      positionAt_seeks hw hr, fun clear there => (positionAt_there hw hr clear there).trans (positioned_eq hw hr)⟩
    rw [beginSector_translated hw hr found]
    rfl

namespace Controller

/-! The Drive Record stands through the Engine's steps. -/

theorem withActive_record {c d : Controller} {f : Work → Record → Controller}
    (same : c.tables.active.drive = d.tables.active.drive)
    (h : ∀ w r, (f w r).tables.active.drive = d.tables.active.drive) :
    (c.withActive f).tables.active.drive = d.tables.active.drive := by
  unfold withActive
  split
  · exact same
  · split
    · exact same
    · exact h _ _

@[simp] theorem leave_record (c : Controller) (seq : Nat) (ans : Option Answer) :
    (c.leave seq ans).tables.active.drive = c.tables.active.drive := (leave_sameRest ..).record

@[simp] theorem failEarly_record (c : Controller) (r : Record) (kind : ErrorKind) (lsa : Nat) :
    (c.failEarly r kind lsa).tables.active.drive = c.tables.active.drive := (failEarly_sameRest ..).record

@[simp] theorem tableFault_record (c : Controller) : c.tableFault.tables.active.drive = c.tables.active.drive :=
  (tableFault_sameRest c).record

@[simp] theorem offerBoth_record (c : Controller) (n : Notice) :
    (c.offerBoth n).tables.active.drive = c.tables.active.drive := (offerBoth_sameRest ..).record

@[simp] theorem testWord_record (c : Controller) (t : TWord) :
    (c.testWord t).tables.active.drive = c.tables.active.drive := (testWord_sameRest ..).record

@[simp] theorem reportSuspect_record (c : Controller) (lsa : Nat) (kind : SuspectKind) (ch : Channel) :
    (c.reportSuspect lsa kind ch).tables.active.drive = c.tables.active.drive := by
  unfold reportSuspect
  dsimp only
  split
  · rfl
  · split
    · exact offerBoth_record ..
    · rfl

@[simp] theorem startWindow_record (c : Controller) : c.startWindow.tables.active.drive = c.tables.active.drive :=
  testWord_record ..

@[simp] theorem countRead_record (c : Controller) (retried : Bool) :
    (c.countRead retried).tables.active.drive = c.tables.active.drive := by
  unfold countRead
  dsimp only
  split
  · rfl
  · rw [startWindow_record]
    split
    · exact offerBoth_record ..
    · rfl

@[simp] theorem endActive_record (c : Controller) (code : AnswerCode) (kind : Option ErrorKind) (lsa : Option Nat) :
    (c.endActive code kind lsa).tables.active.drive = c.tables.active.drive := by
  refine withActive_record rfl fun w r => ?_
  dsimp only
  split
  · split
    · exact leave_record ..
    · exact failEarly_record ..
  · split
    · exact leave_record ..
    · split
      · exact leave_record ..
      · split
        · rfl
        · exact leave_record ..

@[simp] theorem hardError_record (c : Controller) (kind : ErrorKind) :
    (c.hardError kind).tables.active.drive = c.tables.active.drive :=
  withActive_record rfl fun _ _ => endActive_record ..

@[simp] theorem endByStop_record (c : Controller) (st : Stop) :
    (c.endByStop st).tables.active.drive = c.tables.active.drive :=
  withActive_record rfl fun _ _ => by split <;> exact endActive_record ..

@[simp] theorem positioned_record (c : Controller) : c.positioned.tables.active.drive = c.tables.active.drive :=
  withActive_record rfl fun _ _ => by
    split
    · exact endActive_record ..
    · rfl
    · rfl

@[simp] theorem positionAt_record (c : Controller) (target : Nat) :
    (c.positionAt target).tables.active.drive = c.tables.active.drive :=
  withActive_record rfl fun _ _ => by
    split
    · rfl
    · split
      · rfl
      · exact positioned_record c

@[simp] theorem beginSector_record (c : Controller) : c.beginSector.tables.active.drive = c.tables.active.drive :=
  withActive_record rfl fun _ _ => by
    dsimp only
    split
    · rw [endActive_record, tableFault_record]
      rfl
    · exact positionAt_record ..

@[simp] theorem boundary_record (c : Controller) : c.boundary.tables.active.drive = c.tables.active.drive :=
  withActive_record rfl fun _ _ => by
    split
    · exact endActive_record ..
    · split
      · exact endByStop_record ..
      · exact beginSector_record c

@[simp] theorem completeSector_record (c : Controller) :
    c.completeSector.tables.active.drive = c.tables.active.drive :=
  withActive_record rfl fun _ _ => boundary_record ..

end Controller

/-- A command gives a block whose Drive Record is the one it had. -/
theorem gives_of_record {i : Instr} {s : State} {c : Controller} (timers : s.ctl.timersReadable = true)
    (e : i.effect s.ctl = c) (record : c.tables.active.drive = s.ctl.tables.active.drive) : Gives i s c :=
  gives_of_effect e (Controller.timers_of_record record timers)

end Sys2Proof.Machine
end


section
/-! The drive's reports to the Engine: seek-complete, fields, slots and write faults (O35, O38, O39, O40). -/

namespace Sys2Proof.Machine

/-- The outcome of a hard error: its code and its failing LSA (R97). -/
theorem Record.hardOutcome_eq (r : Record) : (r.job.hardCode, r.failingLsa) = match r.job with
    | .formatTrack _ _ _ => (AnswerCode.driveFault, none)
    | .seek lsa => (.driveFault, some (lsa + r.done))
    | _ => (.short, some (r.job.start + r.done)) := by
  unfold failingLsa
  cases e : r.job <;> rfl

namespace Controller

/-! The end of the loading recalibration (R125). -/

theorem enterReady_record (c : Controller) : c.enterReady.tables.active.drive = c.tables.active.drive :=
  announce_record _

section

variable {c : Controller} (state : c.drive.state = .loadingHeads) (waits : c.drive.recalWait ≠ none)

include state waits

theorem seekCompleted_loading : c.seekCompleted = c.headsLoaded := by
  have isSome : c.drive.recalWait.isSome = true := Option.isSome_iff_ne_none.mpr waits
  exact (if_pos (beq_iff_eq.mpr state)).trans (if_pos isSome)

end

theorem seekCompleted_engine {c : Controller} (state : c.drive.state ≠ .loadingHeads) :
    c.seekCompleted = c.engineSeekComplete := if_neg (by simpa using state)

/-- The block as the heads are loaded. -/
def headsOn (c : Controller) : Controller :=
  (c.modDrive fun d => { d with recalWait := none, heads := .loaded }).setEngine
    { c.engine with cylinder := 0, recalPending := false }

theorem headsLoaded_wanted {c : Controller} (wanted : c.drive.targetOn = true ∨ c.anyIn .lingering = true) :
    c.headsLoaded = c.headsOn.enterReady :=
  if_pos (Bool.or_eq_true_iff.mpr wanted)

theorem headsLoaded_unwanted {c : Controller} (off : c.drive.targetOn = false) (flushed : c.anyIn .lingering = false) :
    c.headsLoaded = c.headsOn.beginUnload false :=
  if_neg (ne_true_of_eq_false (Bool.or_eq_false_iff.mpr ⟨off, flushed⟩))

section

variable {c : Controller} {w : Work} {r : Record} (hw : c.engine.work = some w) (hr : c.findRecord w.seq = some r)

include hw hr

/-! A seek-complete of the Engine and its limits (R87, R88). -/

theorem engineSeekComplete_recalibrated {target : Nat} {forMark : Bool}
    (phase : w.phase = .recalibrating target forMark) : c.engineSeekComplete =
      (c.setEngine { cylinder := 0, recalPending := if forMark then false else c.engine.recalPending
                     work := some { w with phase := .seeking target } }).send (.seek target) := by
  have mark : (c.engine.recalPending && !forMark) = if forMark then false else c.engine.recalPending := by
    cases forMark <;> simp
  rw [engineSeekComplete, withActive_eq _ hw hr, phase]
  dsimp only
  rw [mark]
  rfl

theorem engineSeekComplete_there {target : Nat} (phase : w.phase = .seeking target) :
    c.engineSeekComplete = (c.setEngine { c.engine with cylinder := target }).positioned := by
  rw [engineSeekComplete, withActive_eq _ hw hr, phase]

theorem seekFailed_seeking {target : Nat} (phase : w.phase = .seeking target) : c.seekFailed =
    (c.setEngine { c.engine with cylinder := target, recalPending := true }).endActive r.job.hardCode (some .seek)
      r.failingLsa := by
  rw [seekFailed, withActive_eq _ hw hr, phase]
  exact hardError_eq (c := c.setEngine { c.engine with cylinder := target, recalPending := true }) hw hr _

theorem seekFailed_recalibrating {target : Nat} {forMark : Bool} (phase : w.phase = .recalibrating target forMark) :
    c.seekFailed = c := by
  rw [seekFailed, withActive_eq _ hw hr, phase]

theorem recalibrationFailed_recalibrating {target : Nat} {forMark : Bool}
    (phase : w.phase = .recalibrating target forMark) : c.recalibrationFailed =
      (c.setEngine { c.engine with recalPending := true }).endActive r.job.hardCode (some .seek) r.failingLsa := by
  rw [recalibrationFailed, withActive_eq _ hw hr, phase]
  exact hardError_eq (c := c.setEngine { c.engine with recalPending := true }) hw hr _

theorem recalibrationFailed_seeking {target : Nat} (phase : w.phase = .seeking target) :
    c.recalibrationFailed = c := by
  rw [recalibrationFailed, withActive_eq _ hw hr, phase]

end

end Controller

open Controller in
/-- Settles O35: the loading recalibration by the target, the Engine's reports by the phase of its work. -/
theorem seeksEndInTimeOrFail : Obligations.SeeksEndInTimeOrFail := by
  intro s timers
  refine ⟨?_, ?_⟩
  · intro state waits c
    have loaded : (Instr.seekComplete).effect s.ctl = s.ctl.headsLoaded := seekCompleted_loading state waits
    exact ⟨fun wanted => gives_of_record (i := .seekComplete) timers
        (loaded.trans (headsLoaded_wanted wanted)) (enterReady_record _),
      fun off flushed => gives_of_record (i := .seekComplete) timers
        (loaded.trans (headsLoaded_unwanted off flushed)) (Eq.refl _)⟩
  · intro w r target hw hr failed
    have outcome : failed = (r.job.hardCode, r.failingLsa) := (Record.hardOutcome_eq r).symm
    rw [outcome]
    refine ⟨fun forMark phase => ⟨fun up => ?_, ?_, ?_⟩, fun phase => ⟨fun up => ?_, ?_, ?_⟩⟩
    · exact gives_of_record (i := .seekComplete) timers
        ((seekCompleted_engine up).trans (engineSeekComplete_recalibrated hw hr phase)) (Eq.refl _)
    · exact gives_of_record (i := .recalibrationTimeout) timers (recalibrationFailed_recalibrating hw hr phase)
        (endActive_record ..)
    · exact gives_of_record (i := .seekTimeout) timers (seekFailed_recalibrating hw hr phase) (Eq.refl _)
    · have done : (Instr.seekComplete).effect s.ctl = _ :=
        (seekCompleted_engine up).trans (engineSeekComplete_there hw hr phase)
      have there := positioned_eq (c := s.ctl.setEngine { s.ctl.engine with cylinder := target }) hw hr
      exact gives_of_record (i := .seekComplete) timers (done.trans there) 
        ((congrArg (·.tables.active.drive) there).symm.trans (positioned_record _))
    · exact gives_of_record (i := .seekTimeout) timers (seekFailed_seeking hw hr phase) (endActive_record ..)
    · exact gives_of_record (i := .recalibrationTimeout) timers (recalibrationFailed_seeking hw hr phase) (Eq.refl _)

namespace Controller

/-! Written fields and their rereads (R93, R94). -/

/-- The stop that a write meets: by a fallback entry, or in FALLBACK (R102; log 19). -/
theorem writeStop_of_forbidden {c : Controller} {w : Work} (h : w.stop = some .fallback ∨ c.inFallback = true) :
    c.writeStop w = some (w.stop.getD .fallback) := by
  unfold writeStop
  by_cases fallback : c.inFallback = true
  · rw [if_pos fallback]
  · have stop := h.resolve_right fallback
    rw [if_neg fallback, stop]
    rfl

theorem writeStop_of_allowed {c : Controller} {w : Work} (normal : c.inFallback = false)
    (stop : w.stop ≠ some .fallback) : c.writeStop w = none := by
  simp [writeStop, normal, stop]

theorem markSoft_eq {c : Controller} {w : Work} (hw : c.engine.work = some w) (soft : Bool) :
    c.markSoft soft = c.setWork (some { w with soft := w.soft || soft }) := by rw [markSoft, hw]

theorem bufferInHand_of {r : Record} {b : Nat} (h : r.buffers[r.done]? = some b) : r.bufferInHand = b := by
  simp [Record.bufferInHand, h]

section

variable {c : Controller} {w : Work} {r : Record} (hw : c.engine.work = some w) (hr : c.findRecord w.seq = some r)

include hw hr

theorem fieldWritten_plain (phase : w.phase = .writing) (plain : w.verifyFlag = false) :
    c.fieldWritten = c.completeSector := by
  rw [fieldWritten, withActive_eq _ hw hr, phase]
  exact if_neg (ne_true_of_eq_false plain)

theorem fieldWritten_verified (phase : w.phase = .writing) (verify : w.verifyFlag = true) :
    c.fieldWritten = c.searchAgain w .reread := by
  rw [fieldWritten, withActive_eq _ hw hr, phase]
  exact if_pos verify

theorem fieldWritten_other (phase : w.phase ≠ .writing) : c.fieldWritten = c := by
  rw [fieldWritten, withActive_eq _ hw hr]
  split
  · contradiction
  · rfl

theorem rereadDone_other {words : List Word} {check : Word} (phase : w.phase ≠ .rereading) :
    c.rereadDone words check = c := by
  rw [rereadDone, withActive_eq _ hw hr]
  split
  · contradiction
  · rfl

section

variable {words : List Word} {check : Word} {b : Nat} (phase : w.phase = .rereading)

include phase

omit b in
theorem rereadDone_eq : c.rereadDone words check =
    if c.verifyAgrees r words check then (c.markSoft w.rewrite).completeSector else c.verifyMismatch w r := by
  rw [rereadDone, withActive_eq _ hw hr, phase]

variable (held : r.buffers[r.done]? = some b)

include held

theorem rereadDone_agrees (agrees : words = c.bufferWords b ∧ check = checkWord words) :
    c.rereadDone words check = (c.setWork (some { w with soft := w.soft || w.rewrite })).completeSector := by
  refine (rereadDone_eq hw hr phase).trans ((if_pos ?_).trans (congrArg completeSector (markSoft_eq hw _)))
  simp only [verifyAgrees, bufferInHand_of held, Bool.and_eq_true, beq_iff_eq]
  exact agrees

theorem rereadDone_differs (differs : ¬(words = c.bufferWords b ∧ check = checkWord words)) :
    c.rereadDone words check = c.verifyMismatch w r := by
  refine (rereadDone_eq hw hr phase).trans (if_neg ?_)
  simp only [verifyAgrees, bufferInHand_of held, Bool.and_eq_true, beq_iff_eq]
  exact differs

end

end

theorem verifyMismatch_second {c : Controller} {w : Work} (r : Record) (rewrite : w.rewrite = true) :
    c.verifyMismatch w r = (c.reportSuspect (r.job.start + r.done) .writeVerify r.channel).hardError .writeVerify :=
  if_pos rewrite

theorem verifyMismatch_rewrites {c : Controller} {w : Work} (r : Record) (first : w.rewrite = false)
    (normal : c.inFallback = false) (stop : w.stop ≠ some .fallback) : c.verifyMismatch w r =
      c.setWork (some { w with rewrite := true, phase := .searching 0, purpose := .write }) := by
  refine (if_neg (ne_true_of_eq_false first)).trans ?_
  rw [writeStop_of_allowed normal stop]
  rfl

theorem verifyMismatch_stopped {c : Controller} {w : Work} (r : Record) (first : w.rewrite = false)
    (forbidden : w.stop = some .fallback ∨ c.inFallback = true) :
    c.verifyMismatch w r = c.endByStop (w.stop.getD .fallback) := by
  refine (if_neg (ne_true_of_eq_false first)).trans ?_
  rw [writeStop_of_forbidden forbidden]

end Controller

open Controller in
/-- Settles O38: the field by the verify flag, the reread by its comparison and by what may follow a mismatch. -/
theorem writtenFieldCompletesOrIsReread : Obligations.WrittenFieldCompletesOrIsReread := by
  intro s w r b words check timers hw hr held
  have written : ∀ {c}, s.ctl.fieldWritten = c → c.tables.active.drive = s.ctl.tables.active.drive →
      Gives .dataFieldWritten s c := gives_of_record (i := .dataFieldWritten) timers
  have reread : ∀ {c}, s.ctl.rereadDone words check = c → c.tables.active.drive = s.ctl.tables.active.drive →
      Gives (.verifyRereadDone words check) s c := gives_of_record (i := .verifyRereadDone words check) timers
  refine ⟨fun phase => ⟨fun plain => ?_, fun verify => ?_⟩, fun phase => written (fieldWritten_other hw hr phase) rfl,
    ?_, fun phase => reread (rereadDone_other hw hr phase) rfl⟩
  · exact written (fieldWritten_plain hw hr phase plain) (completeSector_record _)
  · exact written (fieldWritten_verified hw hr phase verify) rfl
  · intro phase agrees
    refine ⟨fun same => ?_, fun differs => ?_⟩
    · exact reread (rereadDone_agrees hw hr phase held same) (completeSector_record _)
    · have mismatch := rereadDone_differs hw hr phase held differs
      refine ⟨fun second => ?_, fun first normal stop => ?_, fun first forbidden => ?_⟩
      · exact reread (mismatch.trans (verifyMismatch_second r second)) (by simp)
      · exact reread (mismatch.trans (verifyMismatch_rewrites r first normal stop)) rfl
      · exact reread (mismatch.trans (verifyMismatch_stopped r first forbidden.symm)) (endByStop_record ..)

end Sys2Proof.Machine
end


section
/-! Index pulses, header searches, data fields, format slots and write faults (O36, O37, O39, O40). -/

namespace Sys2Proof.Machine

theorem Sequencer.countRevolution_state (d : Sequencer) (good : Bool) : (d.countRevolution good).state = d.state := by
  cases good <;> rfl

theorem Sequencer.pulse_state (d : Sequencer) (period : Nat) : (d.pulse period).state = d.state := by
  unfold pulse
  split
  · rfl
  · split
    · rfl
    · split
      · rfl
      · exact countRevolution_state ..

theorem Sequencer.speedFaultDue_of_few {d : Sequencer} (h : d.outOfTolerance < 2) : d.speedFaultDue = false := by
  have few : ¬Config.speedFaultRevolutions ≤ d.outOfTolerance := Nat.not_le.mpr h
  simp [speedFaultDue, few]

namespace Controller

/-- The block with the pulse counted. -/
def pulsed (c : Controller) (period : Nat) : Controller := c.modDrive fun d => d.pulse period

/-- In READY a pulse without a speed fault goes to the Engine alone. -/
theorem indexPulse_ready {c : Controller} {period : Nat} (lock : Bool) (state : c.drive.state = .ready)
    (few : (c.pulsed period).drive.outOfTolerance < 2) : c.indexPulse period lock = (c.pulsed period).enginePulse := by
  have still : (c.pulsed period).drive.state = .ready := (Sequencer.pulse_state ..).trans state
  have unlocked : (c.pulsed period).spinUpLock lock = c.pulsed period := by
    refine if_neg ?_
    rw [still]
    simp
  refine (if_neg (ne_true_of_eq_false (Sequencer.speedFaultDue_of_few few))).trans ?_
  exact congrArg enginePulse unlocked

section

variable {c : Controller} {w : Work} {r : Record} (hw : c.engine.work = some w) (hr : c.findRecord w.seq = some r)

include hw hr

theorem enginePulse_first (phase : w.phase = .searching 0) :
    c.enginePulse = c.setWork (some { w with phase := .searching 1 }) := by
  rw [enginePulse, withActive_eq _ hw hr, phase]
  rfl

theorem enginePulse_second {pulses : Nat} (phase : w.phase = .searching pulses) (second : 0 < pulses) :
    c.enginePulse = c.headerMiss := by
  obtain ⟨n, rfl⟩ := Nat.exists_eq_succ_of_ne_zero second.ne'
  rw [enginePulse, withActive_eq _ hw hr, phase]
  rfl

theorem enginePulse_format (phase : w.phase = .awaitingIndex) : c.enginePulse = c.slotBoundary 0 := by
  rw [enginePulse, withActive_eq _ hw hr, phase]

/-! The slots of a format (R95, R102). -/

theorem slotBoundary_stopped (slot : Nat) (stopped : w.stop ≠ none ∨ c.inFallback = true) :
    c.slotBoundary slot = c.endByStop (w.stop.getD .fallback) := by
  rw [slotBoundary, withActive_eq _ hw hr]
  cases stop : w.stop with
  | some st => rfl
  | none =>
    have fallback : c.inFallback = true := stopped.resolve_left (not_not.mpr stop)
    dsimp only
    rw [writeStop_of_forbidden (.inr fallback), stop]

theorem slotBoundary_begins {cylinder head : Nat} {fill : Word} (job : r.job = .formatTrack cylinder head fill)
    (slot : Nat) (stop : w.stop = none) (normal : c.inFallback = false) : c.slotBoundary slot =
      (c.setWork (some { w with phase := .formatting slot })).send (.writeSlot
        { cylinder := cylinder, head := head, sector := slot }
        (headerWords (BitVec.ofNat 16 cylinder) head slot)
        (checkWord (headerWords (BitVec.ofNat 16 cylinder) head slot)) fill
        (checkWord (List.replicate 256 fill))) := by
  have allowed : c.writeStop w = none := writeStop_of_allowed normal (by simp [stop])
  have goes : c.slotBoundary slot = c.beginSlot slot := by
    rw [slotBoundary, withActive_eq _ hw hr, stop]
    dsimp only
    rw [allowed]
  rw [goes, beginSlot, withActive_eq _ hw hr, job]
  rfl

theorem slotWritten_last {slot : Nat} (phase : w.phase = .formatting slot) (last : 23 ≤ slot) :
    c.slotWritten = c.endActive .done none none := by
  have all : Config.sectorsPerTrack ≤ slot + 1 := Nat.succ_le_succ last
  rw [slotWritten, withActive_eq _ hw hr, phase]
  exact if_pos all

theorem slotWritten_next {slot : Nat} (phase : w.phase = .formatting slot) (more : slot < 23) :
    c.slotWritten = c.slotBoundary (slot + 1) := by
  have left : ¬Config.sectorsPerTrack ≤ slot + 1 := Nat.not_le.mpr (Nat.succ_lt_succ more)
  rw [slotWritten, withActive_eq _ hw hr, phase]
  exact if_neg left

theorem slotWritten_other (phase : ∀ slot, w.phase ≠ .formatting slot) : c.slotWritten = c := by
  rw [slotWritten, withActive_eq _ hw hr]
  split
  · rename_i e
    exact absurd e (phase _)
  · rfl

/-! A write fault (R93, R95, R130). -/

theorem writeFaulted_field (phase : w.phase = .writing) : c.writeFaulted =
    (c.reportSuspect (r.job.start + r.done) .torn r.channel).hardError .writeFault := by
  rw [writeFaulted, withActive_eq _ hw hr, phase]

theorem writeFaulted_slot {slot cylinder head : Nat} {fill : Word} (phase : w.phase = .formatting slot)
    (job : r.job = .formatTrack cylinder head fill) : c.writeFaulted =
      if cylinder < 400 then
        (c.reportSuspect (cylinder * 48 + head * 24 + slot) .torn r.channel).hardError .writeFault
      else c.hardError .writeFault := by
  rw [writeFaulted, withActive_eq _ hw hr, phase, job]
  rfl

theorem writeFaulted_other (field : w.phase ≠ .writing) (slot : ∀ slot, w.phase ≠ .formatting slot) :
    c.writeFaulted = c := by
  rw [writeFaulted, withActive_eq _ hw hr]
  split
  · contradiction
  · rename_i e _
    exact absurd e (slot _)
  · rfl

end

end Controller

open Controller in
/-- Settles O39: the slots in turn, a stop before any of them, and the index pulse that begins the first. -/
theorem formatWritesSlotAfterSlot : Obligations.FormatWritesSlotAfterSlot := by
  intro s w r cylinder head fill timers hw hr job begins
  have begin : ∀ (i : Instr) {c : Controller} (slot : Nat), c.engine.work = some w → c.findRecord w.seq = some r →
      c.tables = s.ctl.tables → i.effect s.ctl = c.slotBoundary slot → begins i c slot := by
    intro i c slot hw hr tables effect
    refine ⟨fun stop normal => ?_, fun stopped => ?_⟩
    · exact gives_of_record (i := i) timers (effect.trans (slotBoundary_begins hw hr job slot stop normal))
        (congrArg (·.active.drive) tables)
    · exact gives_of_record (i := i) timers (effect.trans (slotBoundary_stopped hw hr slot stopped))
        ((endByStop_record ..).trans (congrArg (·.active.drive) tables))
  refine ⟨fun slot phase => ⟨fun more => ?_, fun last => ?_⟩, fun phase => ?_, fun period lock phase state => ?_⟩
  · exact begin .formatSlotWritten (slot + 1) hw hr rfl (slotWritten_next hw hr phase more)
  · exact gives_of_record (i := .formatSlotWritten) timers (slotWritten_last hw hr phase last) (endActive_record ..)
  · exact gives_of_record (i := .formatSlotWritten) timers (slotWritten_other hw hr phase) (Eq.refl _)
  · intro c few
    have effect := indexPulse_ready lock state few
    exact begin (.indexPulse period lock) 0 hw hr rfl
      (effect.trans (enginePulse_format (c := s.ctl.pulsed period) hw hr phase))

open Controller in
/-- Settles O40: the write-fault line, and what the Engine is writing as it is raised. -/
theorem writeFaultTearsWhatIsWritten : Obligations.WriteFaultTearsWhatIsWritten := by
  intro s timers c
  have gives : ∀ {d}, c.writeFaulted = d → d.tables.active.drive = c.tables.active.drive → Gives .writeFault s d :=
    gives_of_record (i := .writeFault) timers
  refine ⟨fun idle => gives (withActive_idle (c := c) _ idle) rfl, fun w r hw hr => ⟨fun phase => ?_,
    fun slot cylinder head fill phase job => ⟨fun low => ?_, fun high => ?_⟩, fun field slot => ?_⟩⟩
  · exact gives (writeFaulted_field (c := c) hw hr phase) (by simp)
  · exact gives ((writeFaulted_slot (c := c) hw hr phase job).trans (if_pos low)) (by simp)
  · exact gives ((writeFaulted_slot (c := c) hw hr phase job).trans (if_neg (Nat.not_lt.mpr high))) (by simp)
  · exact gives (writeFaulted_other (c := c) hw hr field slot) rfl

end Sys2Proof.Machine
end


section
/-! The header search and the data field read (O36, O37). -/

namespace Sys2Proof.Machine

/-! The four cases of a header (R4). -/

section

variable {target : Location} {cylinder check : Word} {head sector : Nat}

theorem headerCase_passed
    (h : ¬check = checkWord (headerWords cylinder head sector) ∨ ¬(head = target.head ∧ sector = target.sector)) :
    headerCase target cylinder head sector check = .unreadable ∨
      headerCase target cylinder head sector check = .otherSector := by
  unfold headerCase
  by_cases good : check = checkWord (headerWords cylinder head sector)
  · have other : (head != target.head || sector != target.sector) = true := by
      rw [Bool.or_eq_true, bne_iff_ne, bne_iff_ne]
      exact not_and_or.mp (h.resolve_left (not_not.mpr good))
    rw [if_neg (by simpa using good), if_pos other]
    exact .inr rfl
  · rw [if_pos (by simpa using good)]
    exact .inl rfl

theorem headerCase_sought (good : check = checkWord (headerWords cylinder head sector))
    (sought : head = target.head ∧ sector = target.sector) : headerCase target cylinder head sector check =
      if cylinder.toNat = target.cylinder then .found else .cylinderMismatch := by
  rw [headerCase, if_neg (by simpa using good), if_neg (by simp [sought])]
  simp only [beq_iff_eq]

end

namespace Controller

section

variable {c : Controller} {w : Work} {r : Record} (hw : c.engine.work = some w) (hr : c.findRecord w.seq = some r)

include hw hr

/-- A header miss: the first one of the sector recalibrates, the second is a hard error (R89). -/
theorem headerMiss_eq {sector : Sector} (hand : w.inHand = some sector) : c.headerMiss =
    if w.recovery = true then (c.reportSuspect (r.job.start + r.done) .header r.channel).hardError .header
    else (c.setWork (some
      { w with recovery := true, phase := .recalibrating sector.loc.cylinder false })).send .recalibrate := by
  have location : w.location = sector.loc := by rw [Work.location, hand]; rfl
  rw [headerMiss, withActive_eq _ hw hr, location]
  rfl

section

variable {pulses head number : Nat} {sector : Sector} {cylinder check : Word} (phase : w.phase = .searching pulses)
  (hand : w.inHand = some sector)

include phase hand

theorem headerPasses_passed (h : ¬check = checkWord (headerWords cylinder head number) ∨
    ¬(head = sector.loc.head ∧ number = sector.loc.sector)) : c.headerPasses cylinder head number check = c := by
  rw [headerPasses, withActive_eq _ hw hr, phase, hand]
  dsimp only
  rcases headerCase_passed h with e | e
  · rw [e]
  · rw [e]

variable (good : check = checkWord (headerWords cylinder head number))
  (sought : head = sector.loc.head ∧ number = sector.loc.sector)

include good sought

theorem headerPasses_missed (ne : cylinder.toNat ≠ sector.loc.cylinder) :
    c.headerPasses cylinder head number check = c.headerMiss := by
  rw [headerPasses, withActive_eq _ hw hr, phase, hand]
  dsimp only
  rw [headerCase_sought good sought, if_neg ne]

theorem headerPasses_found (eq : cylinder.toNat = sector.loc.cylinder) :
    c.headerPasses cylinder head number check = c.headerFound := by
  rw [headerPasses, withActive_eq _ hw hr, phase, hand]
  dsimp only
  rw [headerCase_sought good sought, if_pos eq]

end

section

variable {sector : Sector} (hand : w.inHand = some sector)

include hand

theorem headerFound_read (purpose : w.purpose = .read) : c.headerFound =
    (c.setWork (some { w with phase := .reading })).send (.readField sector.loc) := by
  have location : w.location = sector.loc := by rw [Work.location, hand]; rfl
  have begins : c.headerFound = c.beginRead w .reading := by
    rw [headerFound, withActive_eq _ hw hr, purpose]
  rw [begins, beginRead, location]

theorem headerFound_reread (purpose : w.purpose = .reread) : c.headerFound =
    (c.setWork (some { w with phase := .rereading })).send (.readField sector.loc) := by
  have location : w.location = sector.loc := by rw [Work.location, hand]; rfl
  have begins : c.headerFound = c.beginRead w .rereading := by
    rw [headerFound, withActive_eq _ hw hr, purpose]
  rw [begins, beginRead, location]

omit hand in
theorem headerFound_write (purpose : w.purpose = .write) : c.headerFound = c.beginWrite := by
  rw [headerFound, withActive_eq _ hw hr, purpose]

theorem beginWrite_allowed {b : Nat} (normal : c.inFallback = false) (stop : w.stop ≠ some .fallback)
    (held : r.buffers[r.done]? = some b) : c.beginWrite = (c.setWork (some { w with phase := .writing })).send
      (.writeField sector.loc (c.bufferWords b) (checkWord (c.bufferWords b))) := by
  have location : w.location = sector.loc := by rw [Work.location, hand]; rfl
  rw [beginWrite, withActive_eq _ hw hr, writeStop_of_allowed normal stop, location, bufferInHand_of held]

omit hand in
theorem beginWrite_stopped (forbidden : w.stop = some .fallback ∨ c.inFallback = true) :
    c.beginWrite = c.endByStop (w.stop.getD .fallback) := by
  rw [beginWrite, withActive_eq _ hw hr, writeStop_of_forbidden forbidden]

end

end

end Controller

open Controller in
/-- Settles O36: the header by its check, its sector and its cylinder, the pulse by how many came before. -/
theorem headerSearchFindsOrMisses : Obligations.HeaderSearchFindsOrMisses := by
  intro s w r sector pulses head number cylinder check timers hw hr phase hand read good sought reading missed
  have gives : ∀ {c}, s.ctl.headerPasses cylinder head number check = c →
      c.tables.active.drive = s.ctl.tables.active.drive → Gives read s c := gives_of_record (i := read) timers
  have misses : ∀ {c : Controller}, c.engine.work = some w → c.findRecord w.seq = some r → c.headerMiss = missed c :=
    fun hw hr => headerMiss_eq hw hr hand
  have record : ∀ c : Controller, (missed c).tables.active.drive = c.tables.active.drive := fun c => by
    change (if w.recovery = true then _ else _ : Controller).tables.active.drive = _
    split
    · rw [hardError_record, reportSuspect_record]
    · rfl
  refine ⟨fun h => gives (headerPasses_passed hw hr phase hand h) rfl, fun good sought => ⟨fun ne => ?_, fun eq => ?_⟩,
    ?_⟩
  · exact gives ((headerPasses_missed hw hr phase hand good sought ne).trans (misses hw hr)) (record _)
  · have found := headerPasses_found hw hr phase hand good sought eq
    refine ⟨fun purpose => ?_, fun purpose => ?_, fun purpose => ?_⟩
    · exact gives (found.trans (headerFound_read hw hr hand purpose)) rfl
    · exact gives (found.trans (headerFound_reread hw hr hand purpose)) rfl
    · have writes := found.trans (headerFound_write hw hr purpose)
      exact ⟨fun b normal stop held => gives (writes.trans (beginWrite_allowed hw hr hand normal stop held)) rfl,
        fun forbidden => gives (writes.trans (beginWrite_stopped hw hr forbidden)) (endByStop_record ..)⟩
  · intro period lock state c few
    have pulse : ∀ {d}, c.enginePulse = d → d.tables.active.drive = s.ctl.tables.active.drive →
        Gives (.indexPulse period lock) s d := fun e =>
      gives_of_record (i := .indexPulse period lock) timers ((indexPulse_ready lock state few).trans e)
    have hw' : c.engine.work = some w := hw
    have hr' : c.findRecord w.seq = some r := hr
    exact ⟨fun first => pulse (enginePulse_first hw' hr' (phase.trans (congrArg Phase.searching first))) rfl,
      fun second => pulse ((enginePulse_second hw' hr' phase second).trans (misses hw' hr')) (record c)⟩

namespace Controller

/-! The pending stop of the ACTIVE record through table faults and reports (R102). -/

/-- The stop that the Engine's record has pending. -/
def pendingStop (c : Controller) : Option Stop := c.engine.work.bind (·.stop)

theorem tableFault_pendingStop {c : Controller} {w : Work} (hw : c.engine.work = some w) :
    c.tableFault.pendingStop = some (w.stop.getD .fallback) := by
  rw [pendingStop, tableFault, fallbackEntry_engine, hw]
  rfl

section

variable {c : Controller} {st : Stop} (pending : c.pendingStop = some st)

include pending

/-- A pending stop stays through a test of parity. -/
theorem testWord_pendingStop (t : TWord) : (c.testWord t).pendingStop = some st := by
  unfold testWord
  split
  · exact pending
  · obtain ⟨w, hw, stop⟩ := Option.bind_eq_some_iff.mp pending
    rw [tableFault_pendingStop hw, stop]
    rfl

theorem offer_pendingStop (ch : Channel) (n : Notice) : (c.offer ch n).pendingStop = some st :=
  testWord_pendingStop pending _

theorem offerBoth_pendingStop (n : Notice) : (c.offerBoth n).pendingStop = some st :=
  offer_pendingStop (offer_pendingStop pending .a n) .b n

theorem trip_pendingStop : c.trip.pendingStop = some st :=
  offerBoth_pendingStop (c := c.setMedia { c.media with degraded := true }) pending _

theorem startWindow_pendingStop : c.startWindow.pendingStop = some st := testWord_pendingStop pending _

theorem countRead_pendingStop (retried : Bool) : (c.countRead retried).pendingStop = some st := by
  unfold countRead
  dsimp only
  split
  · exact pending
  · refine startWindow_pendingStop ?_
    split
    · exact trip_pendingStop (c := c.setMedia _) pending
    · exact pending

end

/-! A data field read (R90 to R92). -/

theorem setBuffer_outside (c : Controller) (words : List Word) : c.setBuffer 12 words = c := by
  rw [setBuffer, Vector.setIfInBounds_eq_of_size_le (Nat.le_refl 12)]

theorem storeRead_eq (c : Controller) (r : Record) (words : List Word) : c.storeRead r words =
    match r.job, r.buffers[r.done]? with
    | .read _ _, some b => c.setBuffer b words
    | _, _ => c := by
  unfold storeRead
  cases r.job with
  | read start count =>
    cases held : r.buffers[r.done]? with
    | some b =>
      dsimp only
      rw [bufferInHand_of held]
    | none =>
      have outside : r.bufferInHand = 12 := by simp [Record.bufferInHand, held]
      dsimp only
      rw [outside, setBuffer_outside]
  | _ => rfl

theorem storeRead_rest (c : Controller) (r : Record) (words : List Word) :
    (c.storeRead r words).engine = c.engine ∧ (c.storeRead r words).work = c.work ∧
      (c.storeRead r words).tables = c.tables := by
  unfold storeRead
  split
  · exact ⟨rfl, rfl, rfl⟩
  · exact ⟨rfl, rfl, rfl⟩

/-- The SOFT mark is set where the Engine has work. -/
theorem markSoft_map (c : Controller) (soft : Bool) : c.markSoft soft = c.setEngine
    { c.engine with work := c.engine.work.map fun x => { x with soft := x.soft || soft } } := by
  unfold markSoft
  cases hw : c.engine.work with
  | none =>
    have : c.engine = { c.engine with work := none } := by rw [← hw]
    rw [Option.map_none, ← this]
    rfl
  | some w => rfl

theorem markSoft_false (c : Controller) : c.markSoft false = c := by
  unfold markSoft
  cases hw : c.engine.work with
  | none => rfl
  | some w =>
    have : c.engine = { c.engine with work := some w } := by rw [← hw]
    dsimp only
    rw [Bool.or_false, setWork, ← this]

section

variable {c : Controller} {w : Work} {r : Record} (hw : c.engine.work = some w) (hr : c.findRecord w.seq = some r)

include hw hr

theorem fieldRead_other {words : List Word} {check : Word} (phase : w.phase ≠ .reading) :
    c.fieldRead words check = c := by
  rw [fieldRead, withActive_eq _ hw hr]
  split
  · contradiction
  · rfl

theorem fieldRead_eq {words : List Word} {check : Word} (phase : w.phase = .reading) : c.fieldRead words check =
    if check = checkWord words then (c.storeRead r words).readMatched else (c.storeRead r words).readFailed := by
  rw [fieldRead, withActive_eq _ hw hr, phase]
  simp only [beq_iff_eq]

theorem readMatched_first (first : w.retry = 0) : c.readMatched = (c.countRead false).completeSector := by
  rw [readMatched, withActive_eq _ hw hr, first]
  change ((c.markSoft false).countRead false).completeSector = _
  rw [markSoft_false]

theorem readMatched_second (second : w.retry = 1) :
    c.readMatched = ((c.markSoft true).countRead true).completeSector := by
  rw [readMatched, withActive_eq _ hw hr, second]
  rfl

theorem readMatched_later (later : 2 ≤ w.retry) : c.readMatched =
    (((c.reportSuspect (r.job.start + r.done) .soft r.channel).markSoft true).countRead true).completeSector := by
  rw [readMatched, withActive_eq _ hw hr]
  dsimp only
  rw [if_pos later, decide_eq_true (Nat.one_le_of_lt later)]

theorem readFailed_again (good : c.tables.active.drive.w4.good = true)
    (below : w.retry < c.tables.active.drive.retryLimit) : c.readFailed =
      c.setWork (some { w with retry := w.retry + 1, phase := .searching 0, purpose := .read }) := by
  rw [readFailed, withActive_eq _ hw hr]
  dsimp only
  rw [if_neg (by simp [good]), if_pos below]
  rfl

theorem readFailed_hard (good : c.tables.active.drive.w4.good = true)
    (limit : c.tables.active.drive.retryLimit ≤ w.retry) : c.readFailed =
      ((c.reportSuspect (r.job.start + r.done) .dataCheck r.channel).countRead true).hardError .dataCheck := by
  rw [readFailed, withActive_eq _ hw hr]
  dsimp only
  rw [if_neg (by simp [good]), if_neg (Nat.not_lt.mpr limit)]

theorem readFailed_faults (bad : c.tables.active.drive.w4.good = false) :
    c.readFailed = (c.tableFault.countRead true).endByStop (w.stop.getD .fallback) := by
  have pending : (c.tableFault.countRead true).pendingStop = some (w.stop.getD .fallback) :=
    countRead_pendingStop (tableFault_pendingStop hw) true
  have stops : c.readFailed = (c.tableFault.countRead true).endByStop
      ((c.tableFault.countRead true).pendingStop.getD .fallback) := by
    rw [readFailed, withActive_eq _ hw hr]
    exact if_pos (by simp [bad])
  rw [stops, pending]
  rfl

end

end Controller

open Controller in
/-- Settles O37: a match by the retry number, a mismatch by the retry limit and its parity. -/
theorem dataFieldReadCompletesRetriesOrFails : Obligations.DataFieldReadCompletesRetriesOrFails := by
  intro s w r words check timers hw hr
  refine ⟨fun phase => gives_of_record (i := .dataFieldRead words check) timers (fieldRead_other hw hr phase)
    (Eq.refl _), ?_⟩
  intro phase stored lsa marked limit
  have store : s.ctl.storeRead r words = stored := storeRead_eq ..
  obtain ⟨engine, work, tables⟩ := storeRead_rest s.ctl r words
  rw [store] at engine work tables
  have hw' : stored.engine.work = some w := engine ▸ hw
  have hr' : stored.findRecord w.seq = some r := by rw [findRecord, records, work]; exact hr
  have soft : ∀ c : Controller, c.markSoft true = marked c true := fun c => markSoft_map c true
  have ends := fieldRead_eq (words := words) (check := check) hw hr phase
  rw [store] at ends
  have gives : ∀ {c}, (if check = checkWord words then stored.readMatched else stored.readFailed) = c →
      c.tables.active.drive = stored.tables.active.drive → Gives (.dataFieldRead words check) s c :=
    fun e record => gives_of_record (i := .dataFieldRead words check) timers (ends.trans e)
      (record.trans (congrArg (·.active.drive) tables))
  refine ⟨fun good => ⟨fun first => ?_, fun second => ?_, fun later => ?_⟩,
    fun bad => ⟨fun readable below => ?_, fun readable reached => ?_, fun unreadable => ?_⟩⟩
  · exact gives ((if_pos good).trans (readMatched_first hw' hr' first)) (by simp)
  · refine gives ((if_pos good).trans ((readMatched_second hw' hr' second).trans ?_)) ?_
    · rw [soft]
    · rw [completeSector_record, countRead_record]
      rfl
  · refine gives ((if_pos good).trans ((readMatched_later hw' hr' later).trans ?_)) ?_
    · rw [soft]
    · rw [completeSector_record, countRead_record]
      exact reportSuspect_record ..
  · exact gives ((if_neg bad).trans (readFailed_again hw' hr' (tables ▸ readable) (tables ▸ below))) rfl
  · exact gives ((if_neg bad).trans (readFailed_hard hw' hr' (tables ▸ readable) (tables ▸ reached))) (by simp)
  · exact gives ((if_neg bad).trans (readFailed_faults hw' hr' (tables ▸ unreadable))) (by simp)

end Sys2Proof.Machine
end


section
/-! The Drive Sequencer's way up (O45). -/

namespace Sys2Proof.Machine

namespace Controller

/-- A timer's word read as it starts (R136). -/
theorem readTimer_eq (c : Controller) (t : TWord) (tenths fallback : Nat) : c.readTimer t tenths fallback =
    (if t.good = true then c else c.tableFault, if t.good = true then tenths * 100 else fallback * 100) := by
  unfold readTimer
  split <;> rfl

/-! The start (R122). -/

/-- The conditions of the start, as the rule names them. -/
theorem startDue_iff (d : Sequencer) : d.startDue = true ↔ d.state = .stopped ∧ d.targetOn = true ∧
    d.cartridgePresent = true ∧ d.supplyGood = true ∧ d.coolDown = none := by
  simp only [Sequencer.startDue, Bool.and_eq_true, beq_iff_eq, Option.isNone_iff_eq_none, and_assoc]

theorem tryStart_eq {c : Controller} {limit : TWord} (word : c.tables.active.drive.w0 = limit) : c.tryStart =
    if c.drive.state = .stopped ∧ c.drive.targetOn = true ∧ c.drive.cartridgePresent = true ∧
        c.drive.supplyGood = true ∧ c.drive.coolDown = none then
      let sent := (c.send .lockInterlock).send .spindleOn
      (if limit.good = true then sent else sent.tableFault).modDrive fun d =>
        { d with
          state := .spinningUp, interlockLocked := true, spindleOn := true, atRest := false, restedOff := false
          inTolerance := 0, outOfTolerance := 0, pulseSeen := false, alreadyCounted := false
          spinUp := some (if limit.good = true then limit.value.toNat * 100 else 60000) }
    else c := by
  subst word
  by_cases due : c.drive.startDue = true
  · rw [if_pos ((startDue_iff _).mp due), tryStart, if_pos due, startSpindle, readSpinUp, readTimer_eq]
    rfl
  · rw [if_neg (mt (startDue_iff _).mpr due), tryStart, if_neg due]

theorem tryStart_unpacked {c : Controller} (h : c.drive.cartridgePresent = false) : c.tryStart = c :=
  if_neg (by simp [Sequencer.startDue, h])

/-! The cartridge line (R135). -/

/-- The reading of the cartridge line, by the line and what is known of the cartridge. -/
theorem readCartridgeLine_eq {c : Controller} {line present : Bool} (hl : c.drive.cartridgeLine = line)
    (hp : c.drive.cartridgePresent = present) : c.readCartridgeLine =
      if line = present then c
      else if line = true then (c.modDrive fun d => { d with cartridgePresent := true }).fallbackEntry .packChanged
      else c.modDrive fun d => { d with cartridgePresent := false } := by
  subst hl hp
  rw [readCartridgeLine]
  simp only [beq_iff_eq]

theorem readCartridgeLine_removed {c : Controller} (line : c.drive.cartridgeLine = false) :
    c.readCartridgeLine = c.modDrive fun d => { d with cartridgePresent := false } := by
  rw [readCartridgeLine_eq line rfl]
  by_cases absent : c.drive.cartridgePresent = false
  · rw [if_pos absent.symm]
    exact (modDrive_same (congrArg (fun b => { c.drive with cartridgePresent := b }) absent.symm)).symm
  · rw [if_neg (Ne.symm absent), if_neg Bool.false_ne_true]

section

variable {c : Controller} (present : Bool)

/-- The block with the cartridge-present line changed. -/
def lineAt (c : Controller) : Controller := c.modDrive fun d => { d with cartridgeLine := present }

theorem cartridgeChange_locked (locked : c.drive.interlockLocked = true) :
    c.cartridgeChange present = c.lineAt present := if_pos locked

theorem cartridgeChange_unlocked (unlocked : c.drive.interlockLocked = false) :
    c.cartridgeChange present = (c.lineAt present).readCartridgeLine.tryStart :=
  if_neg (ne_true_of_eq_false unlocked)

end

/-! The cool-down's and the head load's end (R121, R125). -/

theorem coolDownEnds_idle {c : Controller} (h : c.drive.coolDown = none) : c.coolDownEnds = c :=
  if_neg (by simp [h])

theorem coolDownEnds_cooling {c : Controller} (running : c.drive.coolDown ≠ none) (state : c.drive.state = .cooling) :
    c.coolDownEnds =
      ((c.modDrive fun d => { d with coolDown := none, state := .stopped }).offerBoth (.driveState .stopped)).tryStart :=
  (if_pos (Option.isSome_iff_ne_none.mpr running)).trans (if_pos (beq_iff_eq.mpr state))

theorem coolDownEnds_other {c : Controller} (running : c.drive.coolDown ≠ none) (state : c.drive.state ≠ .cooling) :
    c.coolDownEnds = (c.modDrive fun d => { d with coolDown := none }).tryStart :=
  (if_pos (Option.isSome_iff_ne_none.mpr running)).trans (if_neg (mt beq_iff_eq.mp state))

theorem headLoadEnds_running {c : Controller} (state : c.drive.state = .loadingHeads)
    (running : c.drive.headLoad ≠ none) : c.headLoadEnds =
      (c.modDrive fun d => { d with headLoad := none, recalWait := some 800 }).send .recalibrate :=
  if_pos (by simp [state, Option.isSome_iff_ne_none, running])

theorem headLoadEnds_idle {c : Controller} (h : c.drive.state ≠ .loadingHeads ∨ c.drive.headLoad = none) :
    c.headLoadEnds = c := by
  refine if_neg fun due => ?_
  simp only [Bool.and_eq_true, beq_iff_eq, Option.isSome_iff_ne_none] at due
  obtain ⟨state, running⟩ := due
  exact h.elim (· state) running

end Controller

open Controller in
/-- Settles O45: the events at which the spindle may start, each up to its start, and the head-load timer. -/
theorem driveComesUp : Obligations.DriveComesUp := by
  intro s timers limit started
  have starts : ∀ {i : Instr} {c : Controller}, i.effect s.ctl = c.tryStart →
      c.tables.active.drive = s.ctl.tables.active.drive → Gives i s (started c) := fun {i c} e record => by
    have start : c.tryStart = started c := tryStart_eq (congrArg (·.w0) record)
    exact gives_of_record timers (e.trans start) (start ▸ (tryStart_record c).trans record)
  refine ⟨fun running state => starts (i := .coolDownExpiry) (coolDownEnds_cooling running state)
      ((offerBoth_sameRest ..).record),
    fun running state => starts (i := .coolDownExpiry) (coolDownEnds_other running state) (Eq.refl _),
    fun idle => gives_of_record (i := .coolDownExpiry) timers (coolDownEnds_idle idle) (Eq.refl _),
    starts (i := .supplyReturn) (c := s.ctl.modDrive fun d => { d with supplyGood := true }) (Eq.refl _) (Eq.refl _),
    fun locked => ⟨?_, ?_⟩, fun unlocked => ⟨fun absent => ?_, fun there => ?_, ?_⟩, fun state running => ?_,
    fun idle => gives_of_record (i := .headLoadExpiry) timers (headLoadEnds_idle idle) (Eq.refl _)⟩
  · exact gives_of_record (i := .cartridgeInserted) timers (cartridgeChange_locked true locked) (Eq.refl _)
  · exact gives_of_record (i := .cartridgeRemoved) timers (cartridgeChange_locked false locked) (Eq.refl _)
  · have read := readCartridgeLine_eq (c := s.ctl.lineAt true) (line := true) (Eq.refl _) absent
    exact starts (i := .cartridgeInserted)
      ((cartridgeChange_unlocked true unlocked).trans (congrArg tryStart read)) (fallbackEntry_sameRest ..).record
  · have read := readCartridgeLine_eq (c := s.ctl.lineAt true) (line := true) (Eq.refl _) there
    exact starts (i := .cartridgeInserted)
      ((cartridgeChange_unlocked true unlocked).trans (congrArg tryStart read)) (Eq.refl _)
  · have read := readCartridgeLine_removed (c := s.ctl.lineAt false) (Eq.refl _)
    have rests := tryStart_unpacked (c := (s.ctl.lineAt false).modDrive fun d => { d with cartridgePresent := false })
      (Eq.refl _)
    exact gives_of_record (i := .cartridgeRemoved) timers
      ((cartridgeChange_unlocked false unlocked).trans ((congrArg tryStart read).trans rests)) (Eq.refl _)
  · exact gives_of_record (i := .headLoadExpiry) timers (headLoadEnds_running state running) (Eq.refl _)

end Sys2Proof.Machine
end


section
/-! The Drive Sequencer's way down (O46). -/

namespace Sys2Proof.Machine

namespace Controller

/-! COOLING (R121, R135, R137; log 28). -/

/-- The block in COOLING, its interlock unlocked and DRIVE-STATE offered. -/
def unlockedCooling (c : Controller) : Controller :=
  ((c.modDrive fun d => { d with state := .cooling, interlockLocked := false }).send .unlockInterlock).offerBoth
    (.driveState .cooling)

/-- The block in COOLING with the cartridge line read. -/
def cooled (c : Controller) : Controller := c.unlockedCooling.readCartridgeLine

theorem unlockedCooling_drive (c : Controller) : c.unlockedCooling.drive =
    { c.drive with state := .cooling, interlockLocked := false } := (offerBoth_sameRest ..).drive

theorem cooled_eq {c : Controller} {line present : Bool} (hl : c.drive.cartridgeLine = line)
    (hp : c.drive.cartridgePresent = present) : c.cooled =
      if line = present then c.unlockedCooling
      else if line = true then
        (c.unlockedCooling.modDrive fun d => { d with cartridgePresent := true }).fallbackEntry .packChanged
      else c.unlockedCooling.modDrive fun d => { d with cartridgePresent := false } :=
  readCartridgeLine_eq (by rw [unlockedCooling_drive, hl]) (by rw [unlockedCooling_drive, hp])

theorem cooled_drive (c : Controller) : c.cooled.drive = { c.drive with
    state := .cooling, interlockLocked := false, cartridgePresent := c.drive.cartridgeLine } := by
  rw [cooled, readCartridgeLine_drive, unlockedCooling_drive]

theorem cooled_record (c : Controller) : c.cooled.tables.active.drive = c.tables.active.drive :=
  (readCartridgeLine_record _).trans (offerBoth_record ..)

theorem enterCooling_running {c : Controller} (h : c.drive.coolDown ≠ none) : c.enterCooling = c.cooled := by
  refine if_neg ?_
  change ¬c.cooled.drive.coolDown.isNone = true
  rw [cooled_drive]
  simpa using h

/-- With the target OFF a cool-down that has expired goes on to STOPPED, and no further. -/
theorem enterCooling_expired {c : Controller} (h : c.drive.coolDown = none) (off : c.drive.targetOn = false) :
    c.enterCooling = (c.cooled.modDrive fun d => { d with state := .stopped }).offerBoth (.driveState .stopped) := by
  have expired : c.enterCooling = c.cooled.enterStopped := by
    refine if_pos ?_
    change c.cooled.drive.coolDown.isNone = true
    rw [cooled_drive, h]
    rfl
  rw [expired]
  refine if_neg ?_
  rw [(announce_drive _).trans (modDrive_drive ..), cooled_drive]
  simp [Sequencer.startDue, off]

/-! The idle expiry and the unload (R127, R134). -/

theorem idleEnds_running {c : Controller} (state : c.drive.state = .ready) (running : c.drive.idle ≠ none) :
    c.idleEnds = c.beginUnload true := if_pos (by simp [state, Option.isSome_iff_ne_none, running])

theorem idleEnds_idle {c : Controller} (h : c.drive.state ≠ .ready ∨ c.drive.idle = none) : c.idleEnds = c := by
  refine if_neg fun due => ?_
  simp only [Bool.and_eq_true, beq_iff_eq, Option.isSome_iff_ne_none] at due
  obtain ⟨state, running⟩ := due
  exact h.elim (· state) running

theorem flushDone_iff (c : Controller) :
    c.flushDone = true ↔ c.anyIn .active = false ∧ c.anyIn .lingering = false := by simp [flushDone]

section

variable {c : Controller}

theorem unloaded_idle (h : c.drive.state ≠ .unloading ∨ c.drive.unloadWait = none) : c.unloaded = c := by
  refine if_neg fun due => ?_
  simp only [Bool.and_eq_true, beq_iff_eq, Option.isSome_iff_ne_none] at due
  obtain ⟨state, running⟩ := due
  exact h.elim (· state) running

variable (state : c.drive.state = .unloading) (waits : c.drive.unloadWait ≠ none)

include state waits

theorem unloaded_eq : c.unloaded = if c.drive.targetOn = false ∧ c.anyIn .active = false ∧ c.anyIn .lingering = false
    then (c.modDrive fun d => { d with unloadWait := none, heads := .unloaded }).enterSpinningDown
    else (c.modDrive fun d => { d with unloadWait := none, heads := .unloaded, state := .parked }).offerBoth
      (.driveState .parked) := by
  have due : (c.drive.state == .unloading && c.drive.unloadWait.isSome) = true := by
    simp [state, Option.isSome_iff_ne_none, waits]
  refine (if_pos due).trans ?_
  by_cases off : c.drive.targetOn = false ∧ c.anyIn .active = false ∧ c.anyIn .lingering = false
  · refine (if_pos ?_).trans (if_pos off).symm
    obtain ⟨target, flushed⟩ := off
    change (!c.drive.targetOn && c.flushDone) = true
    rw [target, (flushDone_iff c).mpr flushed]
    rfl
  · refine (if_neg fun goes => off ?_).trans (if_neg off).symm
    change (!c.drive.targetOn && c.flushDone) = true at goes
    rwa [Bool.and_eq_true, Bool.not_eq_true', flushDone_iff] at goes

end

/-! The spindle at rest (R121; log 45). -/

theorem spindleRests_on {c : Controller} (on : c.drive.spindleOn = true) :
    c.spindleRests = c.modDrive fun d => { d with atRest := true, pulseSeen := false, alreadyCounted := false } :=
  if_pos on

/-- The block with the spindle at rest and its cool-down started. -/
def rested (c : Controller) : Controller :=
  let time := c.tables.active.drive.w1
  (if time.good = true then c else c.tableFault).modDrive fun d =>
    { d with atRest := true, restedOff := true, pulseSeen := false, alreadyCounted := false
             coolDown := some (if time.good = true then time.value.toNat * 100 else 20000) }

/-- The block a timer is read from, with its table fault where the word fails. -/
theorem faulted_drive (c : Controller) (t : TWord) : (if t.good = true then c else c.tableFault).drive = c.drive := by
  split
  · rfl
  · exact (tableFault_sameRest c).drive

theorem faulted_record (c : Controller) (t : TWord) :
    (if t.good = true then c else c.tableFault).tables.active.drive = c.tables.active.drive := by
  split
  · rfl
  · exact tableFault_record c

theorem rested_drive (c : Controller) : c.rested.drive =
    let time := c.tables.active.drive.w1
    { c.drive with
      atRest := true, restedOff := true, pulseSeen := false, alreadyCounted := false
      coolDown := some (if time.good = true then time.value.toNat * 100 else 20000) } := by
  rw [rested]
  dsimp only
  rw [modDrive_drive, faulted_drive]

theorem spindleRests_off {c : Controller} (off : c.drive.spindleOn = false) : c.spindleRests =
    if c.drive.state = .spinningDown then c.rested.enterCooling else c.rested := by
  have started : c.readCoolDown.1.modDrive (fun d =>
      { d.rest with restedOff := true, coolDown := some c.readCoolDown.2 }) = c.rested := by
    rw [readCoolDown, readTimer_eq]
    rfl
  have state : c.rested.drive.state = c.drive.state := by
    rw [rested_drive]
  refine (if_neg (ne_true_of_eq_false off)).trans ?_
  dsimp only
  rw [started, state]
  simp only [beq_iff_eq]

theorem rested_record (c : Controller) : c.rested.tables.active.drive = c.tables.active.drive := faulted_record c _

end Controller

open Controller in
/-- Settles O46: the idle expiry, the off sequence in each state, the unload's end and the spindle at rest. -/
theorem driveGoesDown : Obligations.DriveGoesDown := by
  intro s timers unloading down flushed cooling
  have offDone : s.ctl.drive.targetOn = false → ∀ {c}, s.ctl.offSequence = c →
      c.tables.active.drive = s.ctl.tables.active.drive → Gives .targetOffFlushDone s c := fun _ _ =>
    gives_of_record (i := .targetOffFlushDone) timers
  have downRecord : ∀ c : Controller, (down c).tables.active.drive = c.tables.active.drive := fun c => by
    change c.enterSpinningDown.tables.active.drive = _
    rw [enterSpinningDown_tables]
  have cools : ∀ {c : Controller}, c.drive.cartridgeLine = s.ctl.drive.cartridgeLine →
      c.drive.cartridgePresent = s.ctl.drive.cartridgePresent → c.cooled = cooling c := cooled_eq
  refine ⟨fun state running => gives_of_record (i := .idleExpiry) timers (idleEnds_running state running) (Eq.refl _),
    fun idle => gives_of_record (i := .idleExpiry) timers (idleEnds_idle idle) (Eq.refl _),
    fun off done state clearing => ?_, fun off done state => ?_, fun f off state => ⟨fun turning => ?_, fun rests => ?_⟩,
    fun on => ?_, ?_, fun idle => gives_of_record (i := .unloadComplete) timers (unloaded_idle idle) (Eq.refl _), ?_,
    fun on => gives_of_record (i := .spindleAtRest) timers (spindleRests_on on) (Eq.refl _)⟩
  · have goes : (s.ctl.flushDone && !s.ctl.drive.clearing) = true := by
      rw [(flushDone_iff _).mpr done, clearing]
      rfl
    exact offDone off ((offSequence_ready off state).trans (if_pos goes)) rfl
  · exact offDone off ((offSequence_parked off state).trans (if_pos ((flushDone_iff _).mpr done))) (downRecord _)
  · have left := (offSequence_faulted off (by rw [state]; rfl)).trans (leaveFaulted_spinning turning)
    exact offDone off left (downRecord _)
  · have left := (offSequence_faulted off (by rw [state]; rfl)).trans (leaveFaulted_cooling rests)
    have cooled := cools (c := s.ctl) rfl rfl
    rw [← cooled]
    exact ⟨fun running => offDone off (left.trans (enterCooling_running running)) (cooled_record _),
      fun expired => offDone off (left.trans (enterCooling_expired expired off))
        ((offerBoth_record ..).trans (cooled_record _))⟩
  · exact gives_of_record (i := .targetOffFlushDone) timers (if_pos on) (Eq.refl _)
  · intro state waits c
    have ends := unloaded_eq state waits
    exact ⟨fun off => gives_of_record (i := .unloadComplete) timers (ends.trans (if_pos off)) (downRecord c),
      fun stays => gives_of_record (i := .unloadComplete) timers (ends.trans (if_neg stays)) (offerBoth_record ..)⟩
  · intro off time c
    have rests := spindleRests_off off
    have restedDrive : c.drive = _ := rested_drive s.ctl
    refine ⟨fun other => gives_of_record (i := .spindleAtRest) timers (rests.trans (if_neg other)) (rested_record _),
      fun state => ?_⟩
    have running : c.drive.coolDown ≠ none := by
      rw [restedDrive]
      exact Option.some_ne_none _
    have cooled : c.cooled = cooling c := cools (by rw [restedDrive]) (by rw [restedDrive])
    exact gives_of_record (i := .spindleAtRest) timers
      ((rests.trans (if_pos state)).trans ((enterCooling_running running).trans cooled))
      (cooled ▸ (cooled_record c).trans (rested_record _))

end Sys2Proof.Machine
end


section
/-! Aborts, the supply line and the judgement of revolutions (O47, O49). -/

namespace Sys2Proof.Machine

namespace Controller

/-! An immediate abort (R100, R101). -/

@[simp] theorem abort_record (c : Controller) (kind : ErrorKind) :
    (c.abort kind).tables.active.drive = c.tables.active.drive :=
  withActive_record rfl fun w r => by
    dsimp only
    rw [endActive_record]
    split
    · exact reportSuspect_record ..
    · rfl

theorem reportSuspect_level3 (c : Controller) (lsa : Nat) (kind : SuspectKind) (ch : Channel) :
    (c.reportSuspect lsa kind ch).level3 = c.level3 := by
  unfold reportSuspect
  dsimp only
  split
  · rfl
  · split
    · exact (offerBoth_sameRest ..).level3
    · rfl

theorem abort_level3 (c : Controller) (kind : ErrorKind) : (c.abort kind).level3 = c.level3 := by
  refine withActive_rel (rel := fun c d => d.level3 = c.level3) rfl fun w r => ?_
  dsimp only
  rw [(endActive_sameRest ..).level3]
  split
  · exact reportSuspect_level3 ..
  · rfl

section

variable {c : Controller} {w : Work} {r : Record} (hw : c.engine.work = some w) (hr : c.findRecord w.seq = some r)
  (kind : ErrorKind)

include hw hr

theorem abort_field (phase : w.phase = .writing) : c.abort kind =
    (c.reportSuspect (r.job.start + r.done) .torn r.channel).endActive .driveFault (some kind) r.failingLsa := by
  rw [abort, withActive_eq _ hw hr, phase]

theorem abort_slot {slot cylinder head : Nat} {fill : Word} (phase : w.phase = .formatting slot)
    (job : r.job = .formatTrack cylinder head fill) : c.abort kind =
      (if cylinder < 400 then c.reportSuspect (cylinder * 48 + head * 24 + slot) .torn r.channel else c).endActive
        .driveFault (some kind) none := by
  have none : r.failingLsa = none := Record.failingLsa_formatTrack job
  rw [abort, withActive_eq _ hw hr, phase, job, none]
  by_cases low : cylinder < 400
  · have logical : cylinder < Config.firstSpareCylinder := low
    rw [if_pos low]
    dsimp only
    rw [if_pos logical]
    rfl
  · have spare : ¬cylinder < Config.firstSpareCylinder := low
    rw [if_neg low]
    dsimp only
    rw [if_neg spare]

theorem abort_other (field : w.phase ≠ .writing) (slot : ∀ slot, w.phase ≠ .formatting slot) :
    c.abort kind = c.endActive .driveFault (some kind) r.failingLsa := by
  rw [abort, withActive_eq _ hw hr]
  dsimp only
  cases phase : w.phase with
  | writing => exact absurd phase field
  | formatting n => exact absurd phase (slot n)
  | _ => rfl

end

/-! The emergency unload and the supply line (R128, R129). -/

theorem emergencyUnload_eq {c : Controller} {heads : Heads} (h : c.drive.heads = heads) : c.emergencyUnload =
    if heads = .loaded ∨ heads = .loading then c.send .emergencyUnload else c := by
  subst h
  unfold emergencyUnload
  cases c.drive.heads <;> rfl

theorem emergencyUnload_record (c : Controller) :
    c.emergencyUnload.tables.active.drive = c.tables.active.drive := by
  unfold emergencyUnload
  split <;> rfl

theorem emergencyUnload_level3 (c : Controller) : c.emergencyUnload.level3 = c.level3 := by
  unfold emergencyUnload
  split <;> rfl

theorem enterSpinningDown_level3 (c : Controller) : c.enterSpinningDown.level3 = c.level3 := by
  unfold enterSpinningDown
  split <;> rfl

/-- The block of a supply-low in a spinning state, before a level-3 flush fails. -/
def suppliedDown (c : Controller) : Controller :=
  ((c.abort .supply).emergencyUnload.modDrive fun d =>
    { d with heads := .unloaded, clearing := false, spinUp := none, headLoad := none, recalWait := none
             unloadWait := none }).enterSpinningDown

theorem suppliedDown_level3 (c : Controller) : c.suppliedDown.level3 = c.level3 := by
  rw [suppliedDown, enterSpinningDown_level3, modDrive_level3, emergencyUnload_level3, abort_level3]

theorem suppliedDown_record (c : Controller) : c.suppliedDown.tables.active.drive = c.tables.active.drive := by
  rw [suppliedDown, enterSpinningDown_tables, modDrive_tables, emergencyUnload_record, abort_record]

theorem supplyDown_plain {c : Controller} (h : c.level3 = none) : c.supplyDown = c.suppliedDown := by
  refine if_neg ?_
  change ¬c.suppliedDown.level3.isSome = true
  rw [suppliedDown_level3, h]
  exact Bool.false_ne_true

theorem supplyDown_flush {c : Controller} (h : c.level3 ≠ none) : c.supplyDown = c.suppliedDown.failFlush := by
  refine if_pos ?_
  change c.suppliedDown.level3.isSome = true
  rw [suppliedDown_level3]
  exact Option.isSome_iff_ne_none.mpr h

theorem failFlush_record (c : Controller) : c.failFlush.tables.active.drive = c.tables.active.drive :=
  foldl_field (·.tables.active.drive) (fun _ _ => failEarly_record ..) _ c

/-- The spindle is commanded off where it is commanded on. -/
theorem enterSpinningDown_eq {c : Controller} {on : Bool} (h : c.drive.spindleOn = on) : c.enterSpinningDown =
    (if on = true then (c.modDrive fun d => { d with spindleOn := false }).send .spindleOff else c).modDrive
      fun d => { d with state := .spinningDown } := by
  subst h
  rfl

/-- The block with the supply low. -/
def lowSupply (c : Controller) : Controller := c.modDrive fun d => { d with supplyGood := false }

theorem supplyLow_spinning {c : Controller}
    (state : c.drive.state ∈ [.spinningUp, .loadingHeads, .ready, .unloading, .parked]) :
    c.supplyLow = c.lowSupply.supplyDown := by
  refine if_pos ?_
  change c.drive.state.spinning = true
  simp only [List.mem_cons, List.not_mem_nil, or_false] at state
  rcases state with h | h | h | h | h
  all_goals rw [h]; rfl

theorem supplyLow_resting {c : Controller} (state : c.drive.state ∈ [.spinningDown, .cooling, .stopped]) :
    c.supplyLow = c.lowSupply := by
  simp only [List.mem_cons, List.not_mem_nil, or_false] at state
  have still : ¬c.drive.state.spinning = true ∧ ¬(c.drive.state.isFaulted && c.drive.spindleOn) = true := by
    rcases state with h | h | h
    all_goals rw [h]; exact ⟨Bool.false_ne_true, Bool.false_ne_true⟩
  exact (if_neg still.1).trans (if_neg still.2)

theorem supplyLow_faulted {c : Controller} {f : DriveFault} (state : c.drive.state = .faulted f) : c.supplyLow =
    if c.drive.spindleOn = true then c.lowSupply.spindleOff else c.lowSupply := by
  have still : ¬c.drive.state.spinning = true := by rw [state]; exact Bool.false_ne_true
  refine (if_neg still).trans ?_
  change (if (c.drive.state.isFaulted && c.drive.spindleOn) = true then _ else c.lowSupply) = _
  rw [state]
  rfl

end Controller

open Controller in
/-- Settles O49: the supply line by the state of the Sequencer, and an abort by what is being written. -/
theorem supplyLowTakesTheDriveDown : Obligations.SupplyLowTakesTheDriveDown := by
  refine ⟨?_, fun c kind idle => withActive_idle _ idle, ?_⟩
  · intro s timers low retracted off down
    have falls : low.suppliedDown = down := by
      have unloaded : (low.abort .supply).emergencyUnload = retracted (low.abort .supply) :=
        emergencyUnload_eq (congrArg (·.heads) (abort_drive low .supply))
      have on : ((low.abort .supply).emergencyUnload).drive.spindleOn = s.ctl.drive.spindleOn := by
        rw [emergencyUnload_drive, abort_drive]
        rfl
      rw [unloaded] at on
      rw [suppliedDown, unloaded]
      exact enterSpinningDown_eq on
    have record : down.tables.active.drive = s.ctl.tables.active.drive := by
      rw [← falls, suppliedDown_record]
      rfl
    refine ⟨fun state => ⟨fun quiet => ?_, fun flush => ?_⟩, fun state => ?_, fun f state => ?_⟩
    · exact gives_of_record (i := .supplyLow) timers
        ((supplyLow_spinning state).trans ((supplyDown_plain (c := low) quiet).trans falls)) record
    · exact gives_of_record (i := .supplyLow) timers
        ((supplyLow_spinning state).trans ((supplyDown_flush (c := low) flush).trans (congrArg failFlush falls)))
        ((failFlush_record down).trans record)
    · exact gives_of_record (i := .supplyLow) timers (supplyLow_resting state) (Eq.refl _)
    · refine gives_of_record (i := .supplyLow) timers (supplyLow_faulted state) ?_
      simp only [off]
      split
      · rfl
      · rfl
  · intro c kind w r hw hr failing
    refine ⟨abort_field hw hr kind, fun slot cylinder head fill phase job => ?_, abort_other hw hr kind⟩
    have torn := abort_slot hw hr kind phase job
    exact ⟨fun low => torn.trans (by rw [if_pos low]), fun high => torn.trans (by rw [if_neg (Nat.not_lt.mpr high)])⟩

/-! Revolutions (R123). -/

namespace Sequencer

/-- A revolution out of tolerance. -/
def badRevolution (d : Sequencer) : Sequencer :=
  { d with inTolerance := 0, outOfTolerance := min (d.outOfTolerance + 1) 2 }

theorem revolutionGood_iff (period : Nat) : revolutionGood period = true ↔ 24500 ≤ period ∧ period ≤ 25500 := by
  simp only [revolutionGood, Bool.and_eq_true, decide_eq_true_iff]
  exact Iff.rfl

theorem pulse_eq {d : Sequencer} (turning : d.atRest = false) (period : Nat) : d.pulse period =
    if d.pulseSeen = false then { d with pulseSeen := true }
    else if d.alreadyCounted = true then { d with alreadyCounted := false }
    else if 24500 ≤ period ∧ period ≤ 25500 then
      { d with inTolerance := min (d.inTolerance + 1) 8, outOfTolerance := 0 }
    else d.badRevolution := by
  have counted : d.countRevolution (revolutionGood period) =
      if 24500 ≤ period ∧ period ≤ 25500 then
        { d with inTolerance := min (d.inTolerance + 1) 8, outOfTolerance := 0 }
      else d.badRevolution := by
    unfold countRevolution
    simp only [revolutionGood_iff]
    rfl
  rw [pulse, counted, if_neg (ne_true_of_eq_false turning)]
  simp only [Bool.not_eq_true']

/-- A pulse moves the measurement alone. -/
theorem pulse_rest (d : Sequencer) (period : Nat) : d.pulse period =
    { d with
      pulseSeen := (d.pulse period).pulseSeen
      alreadyCounted := (d.pulse period).alreadyCounted
      inTolerance := (d.pulse period).inTolerance
      outOfTolerance := (d.pulse period).outOfTolerance } := by
  unfold pulse countRevolution
  split
  · rfl
  · split
    · rfl
    · split
      · rfl
      · split <;> rfl

theorem speedFaultDue_iff (e : Sequencer) : e.speedFaultDue = true ↔
    e.state ∈ [.loadingHeads, .ready, .unloading, .parked] ∧ 2 ≤ e.outOfTolerance := by
  have watched : e.state.speedWatched = true ↔ e.state ∈ [.loadingHeads, .ready, .unloading, .parked] := by
    cases e.state <;> simp [SeqState.speedWatched]
  rw [speedFaultDue, Bool.and_eq_true, watched, decide_eq_true_iff]
  exact Iff.rfl

theorem missedPulse_first {d : Sequencer} (first : d.pulseSeen = false) : d.missedPulse = d :=
  if_pos (by simp [first])

theorem missedPulse_turning {d : Sequencer} (turning : d.atRest = false) (seen : d.pulseSeen = true) :
    d.missedPulse = { d.badRevolution with alreadyCounted := true } :=
  if_neg (by simp [turning, seen])

end Sequencer

namespace Controller

/-- A speed fault, by the heads and the spin-up word as it finds them (R128, R136). -/
theorem speedFault_eq {c : Controller} {heads : Heads} {limit : TWord} (h : c.drive.heads = heads)
    (word : c.tables.active.drive.w0 = limit) : c.speedFault =
      let aborted := c.abort .speed
      let retracted := if heads = .loaded ∨ heads = .loading then aborted.send .emergencyUnload else aborted
      ((if limit.good = true then retracted else retracted.tableFault).modDrive fun x =>
        { x with state := .spinningUp, heads := .unloaded, clearing := false, headLoad := none, recalWait := none
                 unloadWait := none, inTolerance := 0, outOfTolerance := 0
                 spinUp := some (if limit.good = true then limit.value.toNat * 100 else 60000) }).offerBoth
        (.driveState .spinningUp) := by
  have unloaded : (c.abort .speed).emergencyUnload =
      if heads = .loaded ∨ heads = .loading then (c.abort .speed).send .emergencyUnload else c.abort .speed :=
    emergencyUnload_eq ((congrArg (·.heads) (abort_drive c .speed)).trans h)
  have record : (c.abort .speed).emergencyUnload.tables.active.drive.w0 = limit := by
    rw [emergencyUnload_record, abort_record, word]
  have read : (c.abort .speed).emergencyUnload.readSpinUp =
      (if limit.good = true then (c.abort .speed).emergencyUnload else (c.abort .speed).emergencyUnload.tableFault,
        if limit.good = true then limit.value.toNat * 100 else 60000) := by
    rw [readSpinUp, readTimer_eq, DriveRecord.spinUp, record]
    rfl
  rw [speedFault, read, unloaded]
  rfl

theorem speedFault_record (c : Controller) : c.speedFault.tables.active.drive = c.tables.active.drive := by
  refine (announce_record _).trans ?_
  rw [modDrive_tables, readSpinUp, readTimer_eq]
  exact (faulted_record ..).trans ((emergencyUnload_record _).trans (abort_record ..))

/-! LOADING-HEADS (R125, R136). -/

theorem enterLoading_good {c : Controller} (good : c.tables.active.drive.w3.good = true) : c.enterLoading =
    (c.send .headsOn).modDrive fun x =>
      { x with state := .loadingHeads, heads := .loading
               headLoad := some (c.tables.active.drive.headLoad * 100) } := by
  have word : (c.send .headsOn).tables.active.drive.w3.good = true := good
  rw [enterLoading, readHeadLoad, readTimer_eq, if_pos word, if_pos word]
  rfl

theorem enterLoading_bad {c : Controller} (bad : c.tables.active.drive.w3.good = false) : c.enterLoading =
    (c.send .headsOn).tableFault.modDrive fun x =>
      { x with state := .loadingHeads, heads := .loading, headLoad := some 1500 } := by
  have word : ¬(c.send .headsOn).tables.active.drive.w3.good = true := ne_true_of_eq_false bad
  rw [enterLoading, readHeadLoad, readTimer_eq, if_neg word, if_neg word]
  rfl

/-! Spin-up lock (R124). -/

section

variable {c : Controller} {lock : Bool}

/-- The condition of the lock, as the rule names it. -/
theorem lockDue_iff :
    (c.drive.state == .spinningUp && lock && decide (Config.lockRevolutions ≤ c.drive.inTolerance)) = true ↔
      c.drive.state = .spinningUp ∧ lock = true ∧ 8 ≤ c.drive.inTolerance := by
  simp only [Bool.and_eq_true, beq_iff_eq, decide_eq_true_iff, and_assoc]
  exact Iff.rfl

theorem spinUpLock_none (h : ¬(c.drive.state = .spinningUp ∧ lock = true ∧ 8 ≤ c.drive.inTolerance)) :
    c.spinUpLock lock = c := if_neg (mt lockDue_iff.mp h)

theorem spinUpLock_locked (h : c.drive.state = .spinningUp ∧ lock = true ∧ 8 ≤ c.drive.inTolerance) :
    c.spinUpLock lock = if c.drive.targetOn = true ∨ c.anyIn .lingering = true
      then (c.modDrive fun d => { d with spinUp := none }).enterLoading
      else (c.modDrive fun d => { d with spinUp := none }).enterSpinningDown := by
  refine (if_pos (lockDue_iff.mpr h)).trans ?_
  simp only [← Bool.or_eq_true]
  rfl

end

end Controller

end Sys2Proof.Machine
end


section
/-! The judgement of revolutions, settled (O47). -/

namespace Sys2Proof.Machine

namespace Controller

/-- A pulse or its absence without a speed fault, or with one. -/
theorem indexPulse_faulted {c : Controller} {period : Nat} (lock : Bool)
    (due : (c.pulsed period).drive.speedFaultDue = true) : c.indexPulse period lock = (c.pulsed period).speedFault :=
  if_pos due

theorem indexPulse_counted {c : Controller} {period : Nat} (lock : Bool)
    (due : ¬(c.pulsed period).drive.speedFaultDue = true) :
    c.indexPulse period lock = ((c.pulsed period).spinUpLock lock).enginePulse := if_neg due

theorem pulseMissing_faulted {c : Controller} (due : c.drive.missedPulse.speedFaultDue = true) :
    c.pulseMissing = (c.modDrive fun d => d.missedPulse).speedFault := if_pos due

theorem pulseMissing_counted {c : Controller} (due : ¬c.drive.missedPulse.speedFaultDue = true) :
    c.pulseMissing = c.modDrive fun d => d.missedPulse := if_neg due

/-- A pulse means nothing to an idle Engine. -/
theorem enginePulse_idle {c : Controller} (idle : c.engine.work = none) : c.enginePulse = c := withActive_idle _ idle

end Controller

open Controller in
/-- Settles O47: the measurement, the speed fault, the lock, and the two timers' words. -/
theorem pulsesJudgeRevolutions : Obligations.PulsesJudgeRevolutions := by
  refine ⟨?_, fun c => ⟨enterLoading_good, enterLoading_bad⟩⟩
  intro s period lock timers turning d limit bad pulsed fault locked with' faulted
  have pulse : d.pulse period = pulsed := Sequencer.pulse_eq turning period
  have counted : s.ctl.pulsed period = with' pulsed := congrArg (fun e => s.ctl.modDrive fun _ => e) pulse
  have state : pulsed.state = d.state := pulse ▸ Sequencer.pulse_state d period
  have rest := Sequencer.pulse_rest d period
  rw [pulse] at rest
  have due : ∀ e : Sequencer, e.state = d.state → (e.speedFaultDue = true ↔ fault e) := fun e h => by
    rw [Sequencer.speedFaultDue_iff, h]
  have faults : ∀ e : Sequencer, e.heads = d.heads → (with' e).speedFault = faulted e := fun e heads =>
    speedFault_eq (c := with' e) heads (Eq.refl limit)
  have faultedRecord : ∀ e : Sequencer, e.heads = d.heads →
      (faulted e).tables.active.drive = s.ctl.tables.active.drive := fun e heads =>
    (faults e heads) ▸ speedFault_record (with' e)
  have gives : ∀ {c}, s.ctl.indexPulse period lock = c → c.tables.active.drive = s.ctl.tables.active.drive →
      Gives (.indexPulse period lock) s c := gives_of_record (i := .indexPulse period lock) timers
  have heads : pulsed.heads = d.heads := by rw [rest]
  refine ⟨fun h => ?_, fun idle => ?_, fun first calm => ?_, fun seen => ?_⟩
  · have speed : (s.ctl.pulsed period).drive.speedFaultDue = true := by
      rw [counted]
      exact (due pulsed state).mpr h
    exact gives ((indexPulse_faulted lock speed).trans ((congrArg speedFault counted).trans (faults pulsed heads)))
      (faultedRecord pulsed heads)
  · have goes : ¬fault pulsed → s.ctl.indexPulse period lock = ((with' pulsed).spinUpLock lock).enginePulse := fun h => by
      have calm : ¬(s.ctl.pulsed period).drive.speedFaultDue = true := by
        rw [counted]
        exact mt (due pulsed state).mp h
      rw [indexPulse_counted lock calm, counted]
    have unwatched : locked pulsed → ¬fault pulsed := by
      rintro ⟨up, -⟩ ⟨watched, -⟩
      rw [up] at watched
      simp at watched
    have locks : locked pulsed → (with' pulsed).drive.state = .spinningUp ∧ lock = true ∧
        8 ≤ (with' pulsed).drive.inTolerance := fun h => ⟨state.trans h.1, h.2⟩
    refine ⟨fun calm loose => ?_, fun lock wanted => ?_, fun lock off flushed on => ?_⟩
    · have still : (with' pulsed).spinUpLock lock = with' pulsed := by
        refine spinUpLock_none fun h => loose ?_
        obtain ⟨up, rest⟩ := h
        exact ⟨state.symm.trans up, rest⟩
      exact gives ((goes calm).trans ((congrArg enginePulse still).trans (enginePulse_idle (c := with' pulsed) idle))) rfl
    · have target : (with' pulsed).drive.targetOn = true ∨ (with' pulsed).anyIn .lingering = true := by
        refine wanted.imp_left fun on => ?_
        change pulsed.targetOn = true
        rw [rest]
        exact on
      have good : s.ctl.tables.active.drive.w3.good = true := (Bool.and_eq_true_iff.mp timers).2
      have loads := (spinUpLock_locked (c := with' pulsed) (locks lock)).trans (if_pos target)
      have entered := enterLoading_good (c := (with' pulsed).modDrive fun d => { d with spinUp := none }) good
      exact gives ((goes (unwatched lock)).trans ((congrArg enginePulse (loads.trans entered)).trans
        (enginePulse_idle (c := (((with' pulsed).modDrive fun d => { d with spinUp := none }).send .headsOn).modDrive
          fun x => { x with state := .loadingHeads, heads := .loading
                            headLoad := some (s.ctl.tables.active.drive.headLoad * 100) }) idle))) rfl
    · have target : ¬((with' pulsed).drive.targetOn = true ∨ (with' pulsed).anyIn .lingering = true) := by
        have pulsedOff : pulsed.targetOn = false := by
          rw [rest]
          exact off
        rintro (on | lingers)
        · exact Bool.false_ne_true (pulsedOff.symm.trans on)
        · exact Bool.false_ne_true (flushed.symm.trans lingers)
      have spindle : pulsed.spindleOn = true := by
        rw [rest]
        exact on
      have stops := (spinUpLock_locked (c := with' pulsed) (locks lock)).trans (if_neg target)
      have entered := (enterSpinningDown_eq (c := (with' pulsed).modDrive fun d => { d with spinUp := none })
        spindle).trans (congrArg (modDrive · fun d => { d with state := .spinningDown }) (if_pos rfl))
      exact gives ((goes (unwatched lock)).trans ((congrArg enginePulse (stops.trans entered)).trans
        (enginePulse_idle idle))) rfl
  · have same : d.missedPulse = d := Sequencer.missedPulse_first first
    have calm' : ¬s.ctl.drive.missedPulse.speedFaultDue = true := by
      rw [same]
      exact mt (due d rfl).mp calm
    exact gives_of_record (i := .missingPulse) timers ((pulseMissing_counted calm').trans (modDrive_same same)) (Eq.refl _)
  · have missed : d.missedPulse = { bad with alreadyCounted := true } := Sequencer.missedPulse_turning turning seen
    have judged : s.ctl.drive.missedPulse.speedFaultDue = true ↔ fault bad := by
      rw [missed]
      exact due { bad with alreadyCounted := true } rfl
    have missedBlock : (s.ctl.modDrive fun d => d.missedPulse) = with' { bad with alreadyCounted := true } :=
      congrArg (fun e => s.ctl.modDrive fun _ => e) missed
    refine ⟨fun calm => ?_, fun h => ?_⟩
    · exact gives_of_record (i := .missingPulse) timers
        ((pulseMissing_counted (mt judged.mp calm)).trans missedBlock) (Eq.refl _)
    · exact gives_of_record (i := .missingPulse) timers
        ((pulseMissing_faulted (judged.mpr h)).trans ((congrArg speedFault missedBlock).trans (faults _ rfl)))
        (faultedRecord _ rfl)

end Sys2Proof.Machine
end


section
/-! FAULTED and the fault clearing (O48). -/

namespace Sys2Proof.Machine

namespace Controller

/-! The records that wait on the drive, ended with a kind for the LINGERING ones (R109, R131, R132). -/

theorem endAllWaiting_some (c : Controller) (ans : Record → Answer) (kind : ErrorKind) :
    c.endAllWaiting ans (some kind) = (c.records.filter (·.isDisk)).foldl (fun d r =>
      if r.state = .waiting then d.leave r.seq (some (ans r))
      else if r.state = .lingering then d.failEarly r kind r.job.start else d) c := by
  have step : (fun (d : Controller) (r : Record) => d.endWaiting ans (some kind) r) = fun d r =>
      if r.state = .waiting then d.leave r.seq (some (ans r))
      else if r.state = .lingering then d.failEarly r kind r.job.start else d := by
    funext d r
    unfold endWaiting
    cases r.state <;> rfl
  rw [endAllWaiting, step]

/-! FAULTED is entered (R131). -/

/-- The block in FAULTED with the disk records that waited on the drive ended. -/
def faultEntered (c : Controller) (f : DriveFault) : Controller :=
  ((c.modDrive fun d => { d with state := .faulted f, heads := .unloaded, clearing := false }).offerBoth
    (.driveState (.faulted f))).endForFault f

theorem faultEntered_eq (c : Controller) (f : DriveFault) :
    let announced := (c.modDrive fun d => { d with state := .faulted f, heads := .unloaded, clearing := false }).offerBoth
      (.driveState (.faulted f))
    c.faultEntered f = (announced.records.filter (·.isDisk)).foldl (fun e r =>
      if r.state = .waiting then e.leave r.seq (some (r.answer .driveFault))
      else if r.state = .lingering then e.failEarly r f.deferredKind r.job.start else e) announced :=
  endAllWaiting_some ..

theorem faultEntered_drive (c : Controller) (f : DriveFault) : (c.faultEntered f).drive =
    { c.drive with state := .faulted f, heads := .unloaded, clearing := false } :=
  (endForFault_drive ..).trans (offerBoth_sameRest ..).drive

theorem faultEntered_record (c : Controller) (f : DriveFault) :
    (c.faultEntered f).tables.active.drive = c.tables.active.drive :=
  (endAllWaiting_sameRest ..).record.trans (offerBoth_record ..)

theorem enterFaulted_on {c : Controller} (on : c.drive.targetOn = true) (f : DriveFault) :
    c.enterFaulted f = c.faultEntered f := by
  refine if_pos ?_
  change (c.faultEntered f).drive.targetOn = true
  rw [faultEntered_drive]
  exact on

theorem enterFaulted_off {c : Controller} (off : c.drive.targetOn = false) (f : DriveFault) :
    c.enterFaulted f = (c.faultEntered f).leaveFaulted := by
  refine if_neg ?_
  change ¬(c.faultEntered f).drive.targetOn = true
  rw [faultEntered_drive]
  exact ne_true_of_eq_false off

theorem enterFaulted_record (c : Controller) (f : DriveFault) :
    (c.enterFaulted f).tables.active.drive = c.tables.active.drive := by
  by_cases on : c.drive.targetOn = true
  · rw [enterFaulted_on on, faultEntered_record]
  · rw [enterFaulted_off (Bool.eq_false_iff.mpr on), leaveFaulted_record, faultEntered_record]

/-! The events that end in FAULTED (R124, R125, R130). -/

theorem spinUpEnds_running {c : Controller} (state : c.drive.state = .spinningUp) (running : c.drive.spinUp ≠ none) :
    c.spinUpEnds = ((c.modDrive fun d => { d with spinUp := none, spindleOn := false }).send
      .spindleOff).enterFaulted .spinUp :=
  if_pos (by simp [state, Option.isSome_iff_ne_none, running])

theorem spinUpEnds_idle {c : Controller} (h : c.drive.state ≠ .spinningUp ∨ c.drive.spinUp = none) :
    c.spinUpEnds = c := by
  refine if_neg fun due => ?_
  simp only [Bool.and_eq_true, beq_iff_eq, Option.isSome_iff_ne_none] at due
  obtain ⟨state, running⟩ := due
  exact h.elim (· state) running

theorem loadingRecalFails_running {c : Controller} (state : c.drive.state = .loadingHeads)
    (running : c.drive.recalWait ≠ none) : c.loadingRecalFails =
      ((c.modDrive fun d => { d with recalWait := none }).send .headsOff).enterFaulted .recal :=
  if_pos (by simp [state, Option.isSome_iff_ne_none, running])

theorem loadingRecalFails_idle {c : Controller} (h : c.drive.state ≠ .loadingHeads ∨ c.drive.recalWait = none) :
    c.loadingRecalFails = c := by
  refine if_neg fun due => ?_
  simp only [Bool.and_eq_true, beq_iff_eq, Option.isSome_iff_ne_none] at due
  obtain ⟨state, running⟩ := due
  exact h.elim (· state) running

theorem faultClearWaited_idle {c : Controller} (raised : Bool) (h : c.drive.state ≠ .ready ∨ c.drive.clearing = false) :
    c.faultClearWaited raised = c := by
  refine if_pos ?_
  rcases h with state | clearing
  · simp [state]
  · simp [clearing]

section

variable {c : Controller} (state : c.drive.state = .ready) (clearing : c.drive.clearing = true)

include state clearing

theorem faultClearWaited_down : c.faultClearWaited false =
    (c.modDrive fun d => { d with writeFaultLine := false, clearing := false }).offSequence :=
  if_neg (by simp [state, clearing])

theorem faultClearWaited_again (few : c.drive.clearCount < 3) : c.faultClearWaited true =
    (c.modDrive fun d => { d with writeFaultLine := true, clearCount := d.clearCount + 1 }).send .faultClear := by
  have runs : ¬(!(c.drive.clearing && c.drive.state == .ready)) = true := by simp [state, clearing]
  have left : c.drive.clearCount < Config.maxFaultClears := few
  exact (if_neg runs).trans ((if_neg Bool.false_ne_true).trans (if_pos left))

theorem faultClearWaited_faults (many : 3 ≤ c.drive.clearCount) : c.faultClearWaited true =
    ((c.modDrive fun d => { d with writeFaultLine := true }).send .headsOff).enterFaulted .writeFault := by
  have runs : ¬(!(c.drive.clearing && c.drive.state == .ready)) = true := by simp [state, clearing]
  have spent : ¬c.drive.clearCount < Config.maxFaultClears := Nat.not_lt.mpr many
  exact (if_neg runs).trans ((if_neg Bool.false_ne_true).trans (if_neg spent))

end

/-! The end of a step in which no fault clearing starts. -/

theorem startClearing_calm {c : Controller} (h : c.drive.clearing = true ∨ c.drive.writeFaultLine = false) :
    c.startClearing = c := by
  refine if_neg ?_
  rcases h with clearing | line
  · simp [clearing]
  · simp [line]

/-- Such a step's end moves the two timers and the ports alone. -/
theorem settle_calm (before : Controller) {after : Controller} (good : after.timersReadable = true)
    (calm : after.drive.clearing = true ∨ after.drive.writeFaultLine = false) : ∃ readyWait idle,
    (before.settle after).drive = { after.drive with readyWait := readyWait, idle := idle } ∧
      (before.settle after).driveOut = after.driveOut ∧ (before.settle after).work = after.work := by
  obtain ⟨readyWait, idle, settled, -, -⟩ := settle_eq before after good
  rw [startClearing_calm calm, pump_eq] at settled
  rw [settled]
  exact ⟨readyWait, idle, rfl, rfl, rfl⟩

end Controller

/-- A command that leaves no fault clearing to start answers with the Sequencer, the commands sent and the Work List of
its effect. -/
theorem answers_calm {i : Instr} {s : State} {c : Controller} {p : Controller → Prop} (e : i.effect s.ctl = c)
    (timers : s.ctl.timersReadable = true) (record : c.tables.active.drive = s.ctl.tables.active.drive)
    (calm : c.drive.clearing = true ∨ c.drive.writeFaultLine = false)
    (h : ∀ (d : Controller) readyWait idle, d.drive = { c.drive with readyWait := readyWait, idle := idle } →
      d.driveOut = c.driveOut → d.work = c.work → p d) : Answers i s p := by
  subst e
  obtain ⟨readyWait, idle, drive, sent, work⟩ :=
    Controller.settle_calm s.ctl (Controller.timers_of_record record timers) calm
  exact answers_of_run (exec_eq_run i s) (h _ readyWait idle drive sent work)

open Controller in
/-- Settles O48: the entry into FAULTED once for its three causes, and the fault clearing by the line and the count. -/
theorem faultsEndInFaulted : Obligations.FaultsEndInFaulted := by
  intro s timers enters
  have enter : ∀ {i : Instr} {c : Controller} (f : DriveFault), i.effect s.ctl = c.enterFaulted f →
      c.tables.active.drive = s.ctl.tables.active.drive → c.drive.targetOn = s.ctl.drive.targetOn →
      c.drive.restedOff = s.ctl.drive.restedOff → c.drive.coolDown = s.ctl.drive.coolDown →
      c.drive.cartridgeLine = s.ctl.drive.cartridgeLine → c.drive.cartridgePresent = s.ctl.drive.cartridgePresent →
      enters i c f f.deferredKind := by
    intro i c f effect record target rests cool line present
    have entry := faultEntered_eq c f
    have drive := faultEntered_drive c f
    have kept := (faultEntered_record c f).trans record
    have read := cooled_eq (c := c.faultEntered f) (line := s.ctl.drive.cartridgeLine)
      (present := s.ctl.drive.cartridgePresent) (by rw [drive, ← line]) (by rw [drive, ← present])
    have left : s.ctl.drive.targetOn = false → i.effect s.ctl = (c.faultEntered f).leaveFaulted := fun off =>
      effect.trans (enterFaulted_off (target.trans off) f)
    refine ⟨fun on => ?_, fun off turning => ?_, fun off down => ?_⟩
    · have gives : Gives i s (c.faultEntered f) :=
        gives_of_record timers (effect.trans (enterFaulted_on (target.trans on) f)) kept
      rwa [entry] at gives
    · have spins := leaveFaulted_spinning (c := c.faultEntered f) (by rw [drive]; exact rests.trans turning)
      have stops := enterSpinningDown_eq (c := c.faultEntered f) (on := c.drive.spindleOn) (by rw [drive])
      have gives : Gives i s (c.faultEntered f).enterSpinningDown :=
        gives_of_record timers ((left off).trans spins) (by rw [enterSpinningDown_tables, kept])
      rwa [stops, entry] at gives
    · have cools := (left off).trans
        (leaveFaulted_cooling (c := c.faultEntered f) (by rw [drive]; exact rests.trans down))
      refine ⟨fun running => ?_, fun expired => ?_⟩
      · have waits := enterCooling_running (c := c.faultEntered f) (by rw [drive]; exact cool ▸ running)
        have gives : Gives i s (c.faultEntered f).cooled :=
          gives_of_record timers (cools.trans waits) ((cooled_record _).trans kept)
        rwa [read, entry] at gives
      · have stops := enterCooling_expired (c := c.faultEntered f) (by rw [drive]; exact cool.trans expired)
          (by rw [drive]; exact target.trans off)
        have gives := gives_of_record timers (cools.trans stops)
          ((offerBoth_record ..).trans ((cooled_record _).trans kept))
        rwa [read, entry] at gives
  refine ⟨fun state running => enter (i := .spinUpLimitExpiry) .spinUp (spinUpEnds_running state running)
      rfl rfl rfl rfl rfl rfl,
    fun idle => gives_of_record (i := .spinUpLimitExpiry) timers (spinUpEnds_idle idle) (Eq.refl _),
    fun state running => enter (i := .loadingRecalTimeout) .recal (loadingRecalFails_running state running)
      rfl rfl rfl rfl rfl rfl,
    fun idle => gives_of_record (i := .loadingRecalTimeout) timers (loadingRecalFails_idle idle) (Eq.refl _),
    fun state clearing => ⟨fun many => enter (i := .faultClearWaitExpiry true) .writeFault
      (faultClearWaited_faults state clearing many) rfl rfl rfl rfl rfl rfl, fun few => ?_, fun on => ?_, fun off => ?_⟩,
    fun raised idle => gives_of_record (i := .faultClearWaitExpiry raised) timers (faultClearWaited_idle raised idle)
      (Eq.refl _)⟩
  · refine answers_calm (i := .faultClearWaitExpiry true) (faultClearWaited_again state clearing few) timers (Eq.refl _)
      (.inl clearing) fun d readyWait idle drive sent work => ?_
    rw [drive, sent, work]
    exact ⟨state, clearing, rfl, rfl, rfl, rfl⟩
  · have stays := (faultClearWaited_down state clearing).trans (if_pos on)
    refine answers_calm (i := .faultClearWaitExpiry false) stays timers (Eq.refl _) (.inr rfl)
      fun d readyWait idle drive sent work => ?_
    rw [drive, sent, work]
    exact ⟨state, rfl, rfl, rfl, rfl⟩
  · have begins := (faultClearWaited_down state clearing).trans (offSequence_ready
      (c := s.ctl.modDrive fun d => { d with writeFaultLine := false, clearing := false }) off state)
    refine ⟨fun busy => ?_, fun idle flushed => ?_⟩
    · have waits : ¬(s.ctl.flushDone && !false) = true := by
        rcases busy with active | lingering
        · simp [flushDone, active]
        · simp [flushDone, lingering]
      refine answers_calm (i := .faultClearWaitExpiry false) (begins.trans (if_neg waits)) timers (Eq.refl _) (.inr rfl)
        fun d readyWait idle drive sent work => ?_
      rw [drive, sent, work]
      exact ⟨state, rfl, rfl, rfl, rfl⟩
    · have goes : (s.ctl.flushDone && !false) = true := by
        rw [(flushDone_iff _).mpr ⟨idle, flushed⟩]
        rfl
      exact gives_of_record (i := .faultClearWaitExpiry false) timers (begins.trans (if_pos goes)) (Eq.refl _)

end Sys2Proof.Machine
end


section
/-! Inbound frames (O60). -/

namespace Sys2Proof

open Machine

/-! The commands that a frame can be. -/

theorem Instr.ofCode_ofFunc (fn : Func) (ch : Channel) (f : OrderFrame) :
    Instr.ofCode ch (BitVec.ofNat 6 fn.code) f = .ofFunc fn ch f := by
  have code : (BitVec.ofNat 6 fn.code).toNat = fn.code := by cases fn <;> rfl
  rw [Instr.ofCode, code, Func.ofCode?_code]

theorem Instr.ofCode_undefined (ch : Channel) {code : BitVec 6} (f : OrderFrame) (h : 21 ≤ code.toNat) :
    Instr.ofCode ch code f = .undefinedFunction ch code f := by
  rw [Instr.ofCode, Func.ofCode?_undefined h]

theorem Instr.ofFunc_order (fn : Func) (ch : Channel) (f : OrderFrame) :
    (Instr.ofFunc fn ch f).order? = some (.of fn ch f) := by cases fn <;> rfl

/-- The frame of an order. -/
theorem Instr.frame_of_order {i : Instr} {o : Machine.Order} (h : i.order? = some o) :
    i.frame? = some (o.channel, o.frameWords) := by
  cases i with
  | resetLevel1 | resetLevel2 | resetLevel3 => exact nomatch h
  | _ => exact congrArg (Option.map fun o => (o.channel, o.frameWords)) h

/-- A frame is a RESET or an order. -/
theorem Instr.reset_or_order {i : Instr} {ch : Channel} {words : List Word} (h : i.frame? = some (ch, words)) :
    (i = .resetLevel1 ch ∧ words = resetFrameWords 1 ∨ i = .resetLevel2 ch ∧ words = resetFrameWords 2 ∨
      i = .resetLevel3 ch ∧ words = resetFrameWords 3) ∨
    ∃ o, i.order? = some o ∧ o.channel = ch ∧ o.frameWords = words := by
  cases order : i.order? with
  | some o =>
    obtain ⟨channel, same⟩ := Prod.mk.inj (Option.some.inj ((frame_of_order order).symm.trans h))
    exact .inr ⟨o, rfl, channel, same⟩
  | none =>
    left
    cases i with
    | resetLevel1 | resetLevel2 | resetLevel3 =>
      obtain ⟨rfl, rfl⟩ := Prod.mk.inj (Option.some.inj h)
      simp
    | _ =>
      exact nomatch (congrArg (Option.map fun o : Machine.Order => (o.channel, o.frameWords)) order).symm.trans h

/-- A well-formed order's code and frame give its command again. -/
theorem Instr.ofCode_of_order {i : Instr} {o : Machine.Order} (wf : i.wellFormed = true) (h : i.order? = some o) :
    o.frame.wellFormed = true ∧ Instr.ofCode o.channel o.code o.frame = i := by
  cases fn : o.fn with
  | some g =>
    cases i with
    | undefinedFunction => exact nomatch (congrArg Order.fn (Option.some.inj h)).trans fn
    | null ch f | read ch f | write ch f | verify ch f | formatTrack ch f | seek ch f | sync ch f | claim ch f
    | yield ch f | keep ch f | release ch f | status ch f | readSuspect ch f | readTable ch f | loadTable ch f
    | copyActive ch f | commit ch f | setDriveTarget ch f | clearDeferred ch f | clearSuspect ch f
    | clearMonitor ch f =>
      obtain rfl := Option.some.inj h
      exact ⟨wf, Instr.ofCode_ofFunc _ ch f⟩
    | _ => exact nomatch h
  | none =>
    cases i with
    | undefinedFunction ch code f =>
      obtain rfl := Option.some.inj h
      obtain ⟨high, frame⟩ := Bool.and_eq_true_iff.mp wf
      exact ⟨frame, Instr.ofCode_undefined ch f (of_decide_eq_true high)⟩
    | null | read | write | verify | formatTrack | seek | sync | claim | yield | keep | release | status | readSuspect
    | readTable | loadTable | copyActive | commit | setDriveTarget | clearDeferred | clearSuspect | clearMonitor =>
      exact nomatch (congrArg Order.fn (Option.some.inj h)).trans fn
    | _ => exact nomatch h

/-- The words of an order, with their fields as numbers. -/
theorem Machine.Order.frameWords_eq (o : Machine.Order) : o.frameWords = BitVec.ofNat 16 (o.frame.words.length + 2)
    :: BitVec.ofNat 16 (o.frame.tag.toNat * 256 + o.code.toNat * 4 + o.frame.cls.toNat) :: o.frame.words := by
  simp [frameWords, frameHead, word, place, Nat.add_assoc]

/-! Word 0 and what is discarded. -/

theorem typeField (head : Word) : field head 15 13 = head.toNat / 8192 := by
  have := head.isLt
  simp only [field]
  omega

theorem lengthField (head : Word) : field head 12 0 = head.toNat % 8192 := by
  simp only [field]
  omega

section

variable (ch : Channel) {head : Word} (rest : List Word)

theorem decodeFrame_badType (h : 2 ≤ head.toNat / 8192) :
    decodeFrame ch (head :: rest) = some (.frameDiscarded ch .badType) := by
  simp only [decodeFrame, typeField]
  exact if_pos h

variable (type : head.toNat / 8192 ≤ 1)

include type

theorem decodeFrame_short (h : head.toNat % 8192 < 2) :
    decodeFrame ch (head :: rest) = some (.frameDiscarded ch .lengthBelowTwo) := by
  simp only [decodeFrame, typeField, lengthField]
  rw [if_neg (Nat.not_lt.mpr type), if_pos h]

theorem decodeFrame_badResetLength (length : 2 ≤ head.toNat % 8192) (reset : head.toNat / 8192 = 1)
    (h : head.toNat % 8192 ≠ 2) : decodeFrame ch (head :: rest) = some (.frameDiscarded ch .badResetLength) := by
  simp only [decodeFrame, typeField, lengthField]
  rw [if_neg (Nat.not_lt.mpr type), if_neg (Nat.not_lt.mpr length), if_pos (by simp [reset, h])]

/-- An order that misses words is no command yet. -/
theorem decodeFrame_missing (length : 2 ≤ head.toNat % 8192) (order : head.toNat / 8192 = 0)
    (h : rest.length + 1 < head.toNat % 8192) : decodeFrame ch (head :: rest) = none := by
  simp only [decodeFrame, typeField, lengthField]
  rw [if_neg (Nat.not_lt.mpr type), if_neg (Nat.not_lt.mpr length), if_neg (by simp [order]), if_pos h.ne]

end

theorem decodeReset_bad (ch : Channel) {level : Word} (h : level.toNat = 0 ∨ 4 ≤ level.toNat) :
    decodeReset ch level = .frameDiscarded ch .badResetLevel := by
  unfold decodeReset
  split
  · omega
  · omega
  · omega
  · rfl

/-- A RESET frame of two words. -/
theorem decodeFrame_reset (ch : Channel) (level : Word) :
    decodeFrame ch [8194, level] = some (decodeReset ch level) := rfl

/-- Settles O60: an order through its code and its fields, a RESET by its level, the discarded frames by their
causes. -/
theorem Machine.inboundFramesDecode : Obligations.InboundFramesDecode := by
  refine ⟨fun i ch words wf framed => ?_, fun i o order => ?_, fun ch => ⟨rfl, rfl, rfl⟩, rfl,
    fun ch code f => Instr.ofCode_undefined ch f,
    fun fn ch f => ⟨Instr.ofFunc_order fn ch f, Instr.ofCode_ofFunc fn ch f⟩, fun ch head level rest =>
    ⟨decodeFrame_badType ch rest, fun type => ⟨decodeFrame_short ch rest type, decodeFrame_badResetLength ch rest type,
      decodeFrame_missing ch rest type⟩, fun bad => ?_, rfl, rfl, fun s => ⟨rfl, rfl⟩⟩⟩
  · rcases Instr.reset_or_order framed with (⟨rfl, rfl⟩ | ⟨rfl, rfl⟩ | ⟨rfl, rfl⟩) | ⟨o, order, rfl, rfl⟩
    · rfl
    · rfl
    · rfl
    · obtain ⟨frame, command⟩ := Instr.ofCode_of_order wf order
      rw [decodeFrame_frameWords o frame, command]
  · rw [Instr.frame_of_order order, Order.frameWords_eq]
  · rw [decodeFrame_reset, decodeReset_bad ch bad]

end Sys2Proof
end


section
/-! The arbiter's choice (O31). -/

namespace Sys2Proof.Machine

/-! Eligibility (R46, R47). -/

theorem rangesOverlap_iff {p q : Option (Nat × Nat)} : rangesOverlap p q = true ↔
    ∃ a b x y, p = some (a, b) ∧ q = some (x, y) ∧ a ≤ y ∧ x ≤ b := by
  cases p with
  | none => simp [rangesOverlap]
  | some p =>
    cases q with
    | none => simp [rangesOverlap]
    | some q =>
      obtain ⟨a, b⟩ := p
      obtain ⟨x, y⟩ := q
      simp only [rangesOverlap, Bool.and_eq_true, decide_eq_true_iff]
      constructor
      · exact fun h => ⟨a, b, x, y, rfl, rfl, h⟩
      · rintro ⟨a, b, x, y, e, k, h⟩
        cases e
        cases k
        exact h

namespace Controller

theorem heldBack_iff {c : Controller} {r : Record} : c.heldBack r = true ↔
    ∃ o ∈ c.records, o.seq < r.seq ∧ (o.isWriting = true ∨ r.isWriting = true) ∧
      (o.state = .waiting ∨ o.state = .lingering ∨ o.state = .active) ∧
      ∃ a b x y, o.job.range = some (a, b) ∧ r.job.range = some (x, y) ∧ a ≤ y ∧ x ≤ b := by
  simp only [heldBack, List.any_eq_true, Bool.and_eq_true, Bool.or_eq_true, decide_eq_true_iff, beq_iff_eq,
    rangesOverlap_iff]
  refine exists_congr fun o => and_congr_right fun _ => ?_
  constructor
  · rintro ⟨⟨⟨older, overlap⟩, writing⟩, (waits | lingers) | active⟩
    · exact ⟨older, writing, .inl waits, overlap⟩
    · exact ⟨older, writing, .inr (.inl lingers), overlap⟩
    · exact ⟨older, writing, .inr (.inr active), overlap⟩
  · rintro ⟨older, writing, state, overlap⟩
    exact ⟨⟨⟨older, overlap⟩, writing⟩, or_assoc.mpr state⟩

theorem buffersFit_iff {c : Controller} {r : Record} : c.buffersFit r = true ↔ ∀ start n, r.job = .read start n →
    n ≤ c.freeBuffers.length ∧ c.channelBuffers r.channel + n ≤ (c.channelRecord r.channel).bufferQuota := by
  unfold buffersFit
  split
  · rename_i start n job
    simp [job]
  · rename_i other
    exact iff_of_true rfl fun start n job => absurd job (other start n)

theorem eligible_iff {c : Controller} {r : Record} : c.eligible r = true ↔
    (r.state = .waiting ∨ r.state = .lingering) ∧ c.work.commitPending = false ∧ ¬c.heldBack r = true ∧
      c.buffersFit r = true := by
  simp only [eligible, inTurn, Bool.and_eq_true, Bool.or_eq_true, beq_iff_eq, Bool.not_eq_true', Bool.not_eq_true,
    and_assoc]

end Controller

/-! Records in acceptance order. -/

/-- The list stands in acceptance order. -/
def InOrder (rs : List Record) : Prop := (rs.map (·.seq)).Pairwise (· < ·)

theorem InOrder.sublist {l m : List Record} (h : InOrder l) (s : m.Sublist l) : InOrder m :=
  List.Pairwise.sublist (s.map _) h

theorem InOrder.head_le {l : List Record} (h : InOrder l) {r : Record} (head : l.head? = some r) :
    ∀ o ∈ l, r.seq ≤ o.seq := by
  cases l with
  | nil => exact fun o ho => absurd ho List.not_mem_nil
  | cons q l =>
    obtain rfl := Option.some.inj head
    obtain ⟨first, -⟩ := List.pairwise_cons.mp h
    intro o ho
    rcases List.mem_cons.mp ho with rfl | later
    · exact le_rfl
    · exact (first o.seq (List.mem_map_of_mem later)).le

/-! Nearest in cylinders (R50). -/

section

variable {current : Nat} {rs : List Record}

theorem mem_nearest {r : Record} : r ∈ nearest current rs ↔
    r ∈ rs ∧ ∀ o ∈ rs, cylinderDistance current r.cylinder ≤ cylinderDistance current o.cylinder := by
  simp only [nearest, List.mem_filter, List.all_eq_true, decide_eq_true_iff]

theorem nearest_ne_nil (h : rs ≠ []) : nearest current rs ≠ [] := by
  cases least : rs.argmin fun r => cylinderDistance current r.cylinder with
  | none => exact absurd (List.argmin_eq_none.mp least) h
  | some r =>
    exact List.ne_nil_of_mem (mem_nearest.mpr ⟨List.argmin_mem least, fun o ho =>
      List.le_of_mem_argmin (f := fun r => cylinderDistance current r.cylinder) ho least⟩)

/-- The record that the choice of the nearest takes: the oldest of them. -/
theorem head_nearest (order : InOrder rs) {r : Record} (head : (nearest current rs).head? = some r) :
    ∀ o ∈ rs, cylinderDistance current r.cylinder ≤ cylinderDistance current o.cylinder ∧
      (cylinderDistance current r.cylinder = cylinderDistance current o.cylinder → r.seq ≤ o.seq) := by
  obtain ⟨-, near⟩ := mem_nearest.mp (List.mem_of_head? head)
  refine fun o ho => ⟨near o ho, fun eq => ?_⟩
  have among : o ∈ nearest current rs := mem_nearest.mpr ⟨ho, fun p hp => eq ▸ near p hp⟩
  exact (order.sublist List.filter_sublist).head_le head o among

end

/-! The sweep (R50). -/

/-- What lies not ahead lies behind. -/
theorem Direction.holds_reverse {d : Direction} {current cylinder : Nat} (h : d.holds current cylinder = false) :
    d.reverse.holds current cylinder = true := by
  cases d with
  | upward =>
    have behind : ¬current ≤ cylinder := of_decide_eq_false h
    exact decide_eq_true (Nat.le_of_not_le behind)
  | downward =>
    have behind : ¬cylinder ≤ current := of_decide_eq_false h
    exact decide_eq_true (Nat.le_of_not_le behind)

section

variable {sweep : Direction} {current : Nat} {rs : List Record}

theorem sweepChoice_ahead (h : ∃ o ∈ rs, sweep.holds current o.cylinder = true) : sweepChoice sweep current rs =
    ((nearest current (rs.filter fun r => sweep.holds current r.cylinder)).head?).map fun r => (r, sweep) := by
  obtain ⟨o, ho, ahead⟩ := h
  refine if_neg fun empty => ?_
  rw [List.isEmpty_iff] at empty
  exact List.not_mem_nil (empty ▸ List.mem_filter.mpr ⟨ho, ahead⟩)

theorem sweepChoice_behind (h : ∀ o ∈ rs, sweep.holds current o.cylinder = false) : sweepChoice sweep current rs =
    ((nearest current rs).head?).map fun r => (r, sweep.reverse) := by
  have none : rs.filter (fun r => sweep.holds current r.cylinder) = [] :=
    List.filter_eq_nil_iff.mpr fun o ho => ne_true_of_eq_false (h o ho)
  have all : rs.filter (fun r => sweep.reverse.holds current r.cylinder) = rs :=
    List.filter_eq_self.mpr fun o ho => Direction.holds_reverse (h o ho)
  rw [sweepChoice, none, all]
  rfl

/-- The candidates of a sweep either have one ahead or none. -/
theorem ahead_or_behind (sweep : Direction) (current : Nat) (rs : List Record) :
    (∃ o ∈ rs, sweep.holds current o.cylinder = true) ∨ ∀ o ∈ rs, sweep.holds current o.cylinder = false := by
  by_cases h : ∃ o ∈ rs, sweep.holds current o.cylinder = true
  · exact .inl h
  · exact .inr fun o ho => Bool.eq_false_iff.mpr fun ahead => h ⟨o, ho, ahead⟩

theorem exists_sweepChoice (h : rs ≠ []) : ∃ r d, sweepChoice sweep current rs = some (r, d) := by
  have first : ∀ {l : List Record} (d : Direction), l ≠ [] →
      ∃ r e, ((nearest current l).head?).map (fun r => (r, d)) = some (r, e) := fun d ne => by
    obtain ⟨r, rest, eq⟩ := List.exists_cons_of_ne_nil (nearest_ne_nil (current := current) ne)
    exact ⟨r, d, by rw [eq]; rfl⟩
  rcases ahead_or_behind sweep current rs with ahead | behind
  · rw [sweepChoice_ahead ahead]
    obtain ⟨o, ho, holds⟩ := ahead
    exact first _ (List.ne_nil_of_mem (List.mem_filter.mpr ⟨ho, holds⟩))
  · rw [sweepChoice_behind behind]
    exact first _ h

end

/-! The classes and the bypass limit (R49). -/

theorem mem_topClass {es : List Record} {r : Record} :
    r ∈ topClass es ↔ r ∈ es ∧ ∀ o ∈ es, o.rank ≤ r.rank := by
  simp only [topClass, List.mem_filter, List.all_eq_true, decide_eq_true_iff]

theorem topClass_ne_nil {es : List Record} (h : es ≠ []) : topClass es ≠ [] := by
  cases top : es.argmax Record.rank with
  | none => exact absurd (List.argmax_eq_none.mp top) h
  | some r => exact List.ne_nil_of_mem (mem_topClass.mpr ⟨List.argmax_mem top, fun o ho => List.le_of_mem_argmax ho top⟩)

theorem pickByBypass_none {limit : Nat} {es : List Record} (h : ∀ o ∈ es, o.bypass < limit) :
    pickByBypass limit es = none :=
  List.find?_eq_none.mpr fun o ho => by simpa using h o ho

/-- The oldest record at or above the bypass limit. -/
theorem pickByBypass_oldest {limit : Nat} {es : List Record} (order : InOrder es) (h : ∃ o ∈ es, limit ≤ o.bypass) :
    ∃ r, pickByBypass limit es = some r ∧ limit ≤ r.bypass ∧ ∀ o ∈ es, limit ≤ o.bypass → r.seq ≤ o.seq := by
  have head : pickByBypass limit es = (es.filter fun r => decide (limit ≤ r.bypass)).head? :=
    (List.head?_filter ..).symm
  obtain ⟨o, ho, over'⟩ := h
  have among : ∀ o ∈ es, limit ≤ o.bypass → o ∈ es.filter fun r => decide (limit ≤ r.bypass) := fun o ho over' =>
    List.mem_filter.mpr ⟨ho, decide_eq_true over'⟩
  obtain ⟨r, rest, eq⟩ := List.exists_cons_of_ne_nil (List.ne_nil_of_mem (among o ho over'))
  have first : (es.filter fun r => decide (limit ≤ r.bypass)).head? = some r := by rw [eq]; rfl
  refine ⟨r, head.trans first, of_decide_eq_true (List.mem_filter.mp (List.mem_of_head? first)).2, fun p hp reached => ?_⟩
  exact (order.sublist List.filter_sublist).head_le first p (among p hp reached)

namespace Controller

section

variable {c : Controller} {limit : Nat} {es : List Record}

theorem pick_bypass {r : Record} (h : pickByBypass limit es = some r) :
    c.pick (some limit) es = some (r, c.work.sweep) := by
  rw [pick, Option.bind_some, h]

theorem pick_sweep (h : ∀ o ∈ es, o.bypass < limit) :
    c.pick (some limit) es = sweepChoice c.work.sweep c.engine.cylinder (topClass es) := by
  rw [pick, Option.bind_some, pickByBypass_none h]

theorem exists_pick (h : es ≠ []) : ∃ r d, c.pick (some limit) es = some (r, d) := by
  rw [pick, Option.bind_some]
  cases pickByBypass limit es with
  | some r => exact ⟨r, _, rfl⟩
  | none => exact exists_sweepChoice (topClass_ne_nil h)

end

end Controller

open Controller in
/-- Settles O31: eligibility by its four conditions, the choice by the bypass limit, the class, the sweep and age. -/
theorem choiceAmongTheEligible : Obligations.ChoiceAmongTheEligible := by
  refine ⟨fun c r => ?_, fun c limit es order => ⟨exists_pick, fun few => (pick_sweep few).symm, ?_⟩⟩
  · rw [eligible_iff, heldBack_iff, buffersFit_iff]
  · intro r d picked
    refine ⟨mem_of_pick picked, fun reached => ?_, ?_⟩
    · obtain ⟨q, first, over', oldest⟩ := pickByBypass_oldest order reached
      obtain ⟨rfl, rfl⟩ := Prod.mk.inj (Option.some.inj ((pick_bypass (c := c) first).symm.trans picked))
      exact ⟨over', rfl, oldest⟩
    · intro few dist ahead
      have chosen := (pick_sweep few).symm.trans picked
      obtain ⟨there, top⟩ := mem_topClass.mp (mem_of_sweepChoice chosen)
      have holds : ∀ o : Record, c.work.sweep.holds c.engine.cylinder o.cylinder = true ↔ ahead o := fun o => by
        simp only [ahead]
        cases c.work.sweep <;> exact decide_eq_true_iff
      have ranked : ∀ o ∈ es, o.rank = r.rank → o ∈ topClass es := fun o ho rank =>
        mem_topClass.mpr ⟨ho, fun p hp => rank ▸ top p hp⟩
      have candidates : InOrder (topClass es) := InOrder.sublist order List.filter_sublist
      refine ⟨top, fun some => ?_, fun none => ?_⟩
      · obtain ⟨o, ho, rank, before⟩ := some
        rw [sweepChoice_ahead ⟨o, ranked o ho rank, (holds o).mpr before⟩] at chosen
        obtain ⟨q, head, eq⟩ := Option.map_eq_some_iff.mp chosen
        obtain ⟨rfl, rfl⟩ := Prod.mk.inj eq
        have near := head_nearest (candidates.sublist List.filter_sublist) head
        obtain ⟨-, own⟩ := List.mem_filter.mp (mem_nearest.mp (List.mem_of_head? head)).1
        exact ⟨rfl, (holds q).mp own, fun p hp rank front =>
          near p (List.mem_filter.mpr ⟨ranked p hp rank, (holds p).mpr front⟩)⟩
      · have behind : ∀ o ∈ topClass es, c.work.sweep.holds c.engine.cylinder o.cylinder = false := fun o ho => by
          obtain ⟨ho, above⟩ := mem_topClass.mp ho
          have rank : o.rank = r.rank := Nat.le_antisymm (top o ho) (above r there)
          exact Bool.eq_false_iff.mpr fun front => none o ho rank ((holds o).mp front)
        rw [sweepChoice_behind behind] at chosen
        obtain ⟨q, head, eq⟩ := Option.map_eq_some_iff.mp chosen
        obtain ⟨rfl, rfl⟩ := Prod.mk.inj eq
        exact ⟨rfl, fun p hp rank => head_nearest candidates head p (ranked p hp rank)⟩

end Sys2Proof.Machine
end


section
/-! The arbiter's rounds (O30, O32). -/

namespace Sys2Proof.Machine

namespace Controller

/-! The tables stand while a record leaves. -/

theorem endDrain_tables (c : Controller) (e : Nat) : (c.endDrain e).tables = c.tables := by
  unfold endDrain
  split
  · split
    · split
      · exact answerWaiter_tables ..
      · rfl
    · rfl
  · rfl

theorem drainFalls_tables (c : Controller) (r : Record) : (c.drainFalls r).tables = c.tables := by
  unfold drainFalls
  split
  · rfl
  · split
    · split
      · exact endDrain_tables ..
      · rfl
    · rfl

theorem leave_tables (c : Controller) (seq : Nat) (ans : Option Answer) : (c.leave seq ans).tables = c.tables := by
  unfold leave
  cases c.findRecord seq with
  | none => rfl
  | some r =>
    have out := (drainFalls_tables (c.takeOut seq ans) r).trans (takeOut_tables ..)
    dsimp only
    split
    · exact (foldl_field (·.tables) (fun _ _ => takeOut_tables ..) _ _).trans out
    · exact out

theorem offer_tables {c : Controller} {ch : Channel} (readable : c.noticesReadable ch = true) (n : Notice) :
    (c.offer ch n).tables = c.tables := by
  rw [offer, testWord_good _ readable]
  rfl

theorem failEarly_tables {c : Controller} {r : Record} (readable : c.noticesReadable r.channel = true)
    (kind : ErrorKind) (lsa : Nat) : (c.failEarly r kind lsa).tables = c.tables :=
  (leave_tables ..).trans (offer_tables (c := c.setDeferred r.channel _) readable _)

theorem resolve_tables (c : Controller) (r : Record) : (c.resolve r).tables = c.tables := by
  unfold resolve
  split
  · rfl
  · split
    · exact drainFalls_tables ..
    · rfl

/-! The rounds of a choice (R45, R48, R49, R53). -/

/-- The words that a choice reads before its pick have good parity. -/
def quotasReadable (c : Controller) : Prop := ∀ ch, (c.channelRecord ch).w0.good = true

theorem quotasReadable.of_tables {c d : Controller} (h : c.quotasReadable) (tables : d.tables = c.tables) :
    d.quotasReadable := fun ch => by
  rw [channelRecord, tables]
  exact h ch

theorem testQuotas_readable {c : Controller} (h : c.quotasReadable) : c.testQuotas = c := by
  have one : ∀ ch, c.testQuota ch = c := fun ch => by
    unfold testQuota
    split
    · exact testWord_good c (h ch)
    · rfl
  rw [testQuotas, one, one]

/-- Where no record is eligible no choice is made. -/
theorem choose_none {c : Controller} (readable : c.quotasReadable) (none : c.eligibles = []) : ∀ n, c.choose n = c
  | 0 => rfl
  | n + 1 => by
    unfold choose
    dsimp only
    rw [testQuotas_readable readable, none]
    rfl

/-- The block that a re-check ends in, with the table fault it meets (R52). -/
def rechecked (c : Controller) (r : Record) : Controller := if c.recheckOnce r = .fault then c.tableFault else c

theorem recheck_eq (c : Controller) (r : Record) : c.recheck r = (c.rechecked r, (c.rechecked r).recheckOnce r) := by
  unfold recheck rechecked
  cases h : c.recheckOnce r with
  | fault => rfl
  | fail => simp [h]
  | pass => simp [h]

/-- The block that a choice picks from, with the table fault of the bypass limit's word (R49). -/
def limitRead (c : Controller) : Controller := c.testWord c.tables.active.drive.w4

theorem limitRead_good {c : Controller} (good : c.tables.active.drive.w4.good = true) : c.limitRead = c :=
  testWord_good c good

section

variable {c : Controller} {r : Record} {sweep : Direction} (readable : c.quotasReadable)
  (picked : c.limitRead.pick c.tables.active.drive.bypassLimit? c.eligibles = some (r, sweep))

include picked

theorem mem_of_picked : r ∈ c.eligibles := mem_of_pick picked

theorem eligibles_ne_nil_of_picked : ¬c.eligibles.isEmpty = true := by
  rw [List.isEmpty_iff]
  exact List.ne_nil_of_mem (mem_of_pick picked)

include readable

theorem choose_pass {extent : Option Nat} {verify : Bool}
    (pass : (c.limitRead.rechecked r).recheckOnce r = .pass extent verify) (n : Nat) :
    c.choose (n + 1) = ((c.limitRead.rechecked r).resolve r).dispatch r c.eligibles sweep extent verify := by
  rw [limitRead] at picked pass
  unfold choose
  dsimp only
  rw [testQuotas_readable readable, if_neg (eligibles_ne_nil_of_picked picked), picked]
  dsimp only
  rw [recheck_eq, pass]
  rfl

theorem choose_fail (fail : (c.limitRead.rechecked r).recheckOnce r = .fail) (n : Nat) :
    c.choose (n + 1) = (((c.limitRead.rechecked r).resolve r).turnAway r).choose n := by
  rw [limitRead] at picked fail
  conv_lhs => unfold choose
  dsimp only
  rw [testQuotas_readable readable, if_neg (eligibles_ne_nil_of_picked picked), picked]
  dsimp only
  rw [recheck_eq, fail]
  rfl

end

/-! The arbiter (R46, R48, R55, R126). -/

section

variable {c : Controller}

theorem arbitrate_active (h : c.anyIn .active = true) : c.arbitrate = c := if_pos h

variable (idle : c.anyIn .active = false)

include idle

theorem arbitrate_ready (state : c.drive.state = .ready) (clearing : c.drive.clearing = false) :
    c.arbitrate = c.choose (c.records.length + 1) :=
  (if_neg (ne_true_of_eq_false idle)).trans (if_pos (by simp [Sequencer.serving, state, clearing]))

theorem arbitrate_parked (state : c.drive.state = .parked) : c.arbitrate = c.askForHeads :=
  (if_neg (ne_true_of_eq_false idle)).trans ((if_neg (by simp [Sequencer.serving, state])).trans
    (if_pos (by simp [state])))

theorem arbitrate_elsewhere (state : c.drive.state ≠ .parked)
    (serving : c.drive.state ≠ .ready ∨ c.drive.clearing = true) : c.arbitrate = c := by
  refine (if_neg (ne_true_of_eq_false idle)).trans ((if_neg ?_).trans (if_neg (by simpa using state)))
  rcases serving with other | clearing
  · simp [Sequencer.serving, other]
  · simp [Sequencer.serving, clearing]

omit idle in
/-- Where no record is eligible the arbiter does nothing. -/
theorem arbitrate_none (readable : c.quotasReadable) (none : c.eligibles = []) : c.arbitrate = c := by
  unfold arbitrate askForHeads
  dsimp only
  rw [testQuotas_readable readable, none, choose_none readable none]
  simp

theorem arbitrate_asks (state : c.drive.state = .parked) (readable : c.quotasReadable) (some : c.eligibles ≠ []) :
    c.arbitrate = c.enterLoading := by
  rw [arbitrate_parked idle state, askForHeads, testQuotas_readable readable, if_neg (by simpa using some)]

end

/-! The Drive Record through the arbiter. -/

theorem enterLoading_record (c : Controller) : c.enterLoading.tables.active.drive = c.tables.active.drive :=
  (readTimer_sameRest (c.send .headsOn) ..).record

theorem turnAway_sameRest (c : Controller) (r : Record) : c.SameRest (c.turnAway r) := by
  unfold turnAway
  split
  · exact failEarly_sameRest ..
  · exact leave_sameRest ..

theorem rechecked_sameRest (c : Controller) (r : Record) : c.SameRest (c.rechecked r) := by
  unfold rechecked
  split
  · exact tableFault_sameRest c
  · exact .rfl

theorem startWork_record (c : Controller) (r : Record) (verify : Bool) :
    (c.startWork r verify).tables.active.drive = c.tables.active.drive := by
  unfold startWork
  dsimp only
  split
  · exact positionAt_record ..
  · exact beginSector_record _

theorem choose_record : ∀ (n : Nat) (c : Controller), (c.choose n).tables.active.drive = c.tables.active.drive
  | 0, _ => rfl
  | n + 1, c => by
    have quotas := (testQuotas_sameRest c).record
    unfold choose
    dsimp only
    split
    · exact quotas
    · have tested := (testWord_record c.testQuotas c.testQuotas.tables.active.drive.w4).trans quotas
      split
      · exact tested
      · rename_i r sweep _
        have judged := ((rechecked_sameRest _ r).trans (resolve_sameRest _ r)).record.trans tested
        rw [recheck_eq]
        split
        · rename_i eq
          obtain ⟨rfl, -⟩ := Prod.mk.inj eq
          exact (startWork_record ..).trans judged
        · rename_i eq
          obtain ⟨rfl, -⟩ := Prod.mk.inj eq
          exact (choose_record n _).trans ((turnAway_sameRest ..).record.trans judged)

theorem arbitrate_record (c : Controller) : c.arbitrate.tables.active.drive = c.tables.active.drive := by
  unfold arbitrate askForHeads
  dsimp only
  split
  · rfl
  · split
    · exact choose_record ..
    · split
      · split
        · exact (testQuotas_sameRest c).record
        · exact (enterLoading_record _).trans (testQuotas_sameRest c).record
      · rfl

/-! A dispatch (R43, R51, R54). -/

theorem dispatch_eq_dispatched (c : Controller) (r : Record) (es : List Record) (sweep : Direction)
    (extent : Option Nat) (verify : Bool) : c.dispatch r es sweep extent verify = c.dispatched r es sweep extent verify := by
  have any : ∀ o : Record, es.any (·.seq == o.seq) = true ↔ ∃ e ∈ es, e.seq = o.seq := fun o => by simp
  have records : c.dispatchRecords r es extent = c.records.map fun o =>
      if o.seq = r.seq then
        { o with
          state := .active
          extent := extent
          buffers := match r.job with
            | .read _ n => c.freeBuffers.take n
            | _ => r.buffers }
      else if ∃ e ∈ es, e.seq = o.seq then { o with bypass := min (o.bypass + 1) 15 } else o := by
    rw [dispatchRecords]
    simp only [beq_iff_eq, any]
    rfl
  rw [dispatch, records]
  rfl

/-- A record of the block after a resolution is one from before, or the resolved one with its new extent. -/
theorem mem_resolve {c : Controller} {r q : Record} (h : q ∈ (c.resolve r).records) :
    q ∈ c.records ∨ q.seq = r.seq ∧ ∃ o ∈ c.records, o.seq = r.seq ∧ q.job = o.job ∧ q.buffers = o.buffers := by
  unfold resolve at h
  split at h
  · exact .inl h
  · split at h
    · obtain ⟨o, ho, rfl⟩ := List.mem_map.mp ((drainFalls_stays ..).fewer.subset h)
      by_cases same : (o.seq == r.seq) = true
      · rw [if_pos same]
        have seq : o.seq = r.seq := beq_iff_eq.mp same
        exact .inr ⟨seq, o, ho, seq, rfl, rfl⟩
      · rw [if_neg same]
        exact .inl ho
    · exact .inl h

/-- Where the record is there and eligible, a dispatch after its resolution is told by the records themselves. -/
theorem dispatched_resolve {c : Controller} (s : c.sequenceSound) {r : Record} {es : List Record} (hr : r ∈ c.records)
    (es_mem : ∀ e ∈ es, e ∈ c.records) (sweep : Direction) (extent : Option Nat) (verify : Bool) :
    (c.resolve r).dispatched r es sweep extent verify =
      ((((c.resolve r).setRecords ((c.resolve r).records.map fun o =>
        if o.seq = r.seq then
          { o with state := .active
                   extent := extent
                   buffers := match o.job with
                     | .read _ n => (c.resolve r).freeBuffers.take n
                     | _ => o.buffers }
        else if o ∈ es then { o with bypass := min (o.bypass + 1) 15 } else o)).modWork
          fun w => { w with sweep := sweep }).startWork r verify) := by
  refine congrArg (fun rs => (((c.resolve r).setRecords rs).modWork fun w => { w with sweep := sweep }).startWork r
    verify) (List.map_congr_left fun o ho => ?_)
  rcases mem_resolve ho with there | ⟨seq, q, hq, same, job, buffers⟩
  · by_cases seq : o.seq = r.seq
    · obtain rfl := s.eq_of_seq there hr seq
      exact (if_pos rfl).trans (if_pos rfl).symm
    · have among : (∃ e ∈ es, e.seq = o.seq) ↔ o ∈ es :=
        ⟨fun ⟨e, he, eq⟩ => s.eq_of_seq (es_mem e he) there eq ▸ he, fun he => ⟨o, he, rfl⟩⟩
      rw [if_neg seq, if_neg seq]
      simp only [among]
  · obtain rfl := s.eq_of_seq hq hr same
    rw [job, buffers]
    exact (if_pos seq).trans (if_pos seq).symm

end Controller

open Controller in
/-- Settles O30: the idle outcomes, the dispatch, and the heads asked for. -/
theorem arbiterDispatchesTheChosenRecord : Obligations.ArbiterDispatchesTheChosenRecord := by
  intro s timers sound limit readable eligible
  have gives : ∀ {c}, s.ctl.arbitrate = c → c.tables.active.drive = s.ctl.tables.active.drive →
      Gives .arbiterChoice s c := gives_of_record (i := .arbiterChoice) timers
  refine ⟨fun rests => gives ?_ rfl, ?_, fun idle state some => ?_⟩
  · by_cases active : s.ctl.anyIn .active = true
    · exact arbitrate_active active
    · have idle : s.ctl.anyIn .active = false := Bool.eq_false_iff.mpr active
      rcases rests.resolve_left active with none | ⟨state, serving⟩
      · exact arbitrate_none readable none
      · exact arbitrate_elsewhere idle state serving
  · intro r sweep extent verify idle state clearing picked pass c
    have start : s.ctl.limitRead = s.ctl := limitRead_good limit
    have judged : s.ctl.rechecked r = s.ctl := if_neg (by rw [pass]; exact nofun)
    have bypass : s.ctl.tables.active.drive.bypassLimit? = some s.ctl.tables.active.drive.bypassLimit := if_pos limit
    have picked' : s.ctl.limitRead.pick s.ctl.tables.active.drive.bypassLimit? s.ctl.eligibles = some (r, sweep) := by
      rw [start, bypass]
      exact picked
    have chosen := choose_pass readable picked' (extent := extent) (verify := verify) (by rw [start, judged, pass])
      s.ctl.records.length
    rw [start, judged, dispatch_eq_dispatched, dispatched_resolve sound (mem_eligibles.mp (mem_of_pick picked)).1
      (fun e he => (mem_eligibles.mp he).1)] at chosen
    have choice := (arbitrate_ready idle state clearing).trans chosen
    exact gives choice ((congrArg (·.tables.active.drive) choice).symm.trans (arbitrate_record _))
  · have good : s.ctl.tables.active.drive.w3.good = true := (Bool.and_eq_true_iff.mp timers).2
    exact gives ((arbitrate_asks idle state readable some).trans (enterLoading_good good)) rfl

end Sys2Proof.Machine
end


section
/-! The re-check and the whole of a choice (O32). -/

namespace Sys2Proof.Machine

/-! The search of readable extents meets no fault (R25). -/

theorem searchExtents_ne_fault {lo hi : Nat} : ∀ {es : List ExtentEntry} {n : Nat},
    (∀ e ∈ es, wordsGood e.words = true) → searchExtents lo hi n es ≠ .fault
  | [], _, _ => nofun
  | e :: es, n, good => by
    have head := good e (List.mem_cons_self ..)
    by_cases contains : e.Contains lo hi
    · rw [searchExtents_cons_pos head contains]
      exact nofun
    · rw [searchExtents_cons_neg head contains]
      exact searchExtents_ne_fault fun e he => good e (List.mem_cons_of_mem _ he)

namespace Controller

/-! The re-check (R52). -/

section

variable {c : Controller} {r : Record}

/-- What a record of the range may do in the extent found. -/
def permits (c : Controller) (r : Record) (n : Nat) (e : ExtentEntry) : Prop :=
  (∃ g ∈ r.job.func.rights, e.hasRight r.channel g = true) ∧
    (r.isWriting = true → e.exclusive = true → (c.claimAt n).bind (·.holder) = some r.channel)

section

variable {range : Nat × Nat} {n : Nat} {e : ExtentEntry} (covers : r.job.range = some range)

include covers

theorem recheckOnce_notFound (h : c.extentOf range = .notFound) : c.recheckOnce r = .fail := by
  rw [recheckOnce, covers]
  dsimp only
  rw [h]

variable (found : c.extentOf range = .found n e)

include found

theorem recheckOnce_found : c.recheckOnce r =
    if !r.job.func.rights.any (e.hasRight r.channel) then .fail
    else if r.isWriting && e.exclusive && !c.holdsClaim r n then .fail
    else .pass (some n) e.verifyAfterWrite := by
  rw [recheckOnce, covers]
  dsimp only
  rw [found]

theorem recheckOnce_permitted (h : c.permits r n e) : c.recheckOnce r = .pass (some n) e.verifyAfterWrite := by
  obtain ⟨right, holder⟩ := h
  have any : r.job.func.rights.any (e.hasRight r.channel) = true := List.any_eq_true.mpr right
  rw [recheckOnce_found covers found, if_neg (by simp [any]), if_neg]
  simp only [Bool.and_eq_true, Bool.not_eq_true', not_and, holdsClaim, and_imp]
  exact fun writing exclusive => by simp [holder writing exclusive]

theorem recheckOnce_forbidden (h : ¬c.permits r n e) : c.recheckOnce r = .fail := by
  rw [recheckOnce_found covers found]
  by_cases any : r.job.func.rights.any (e.hasRight r.channel) = true
  · rw [if_neg (by simp [any]), if_pos]
    have other : ¬(r.isWriting = true → e.exclusive = true → (c.claimAt n).bind (·.holder) = some r.channel) :=
      fun holder => h ⟨List.any_eq_true.mp any, holder⟩
    simp only [Classical.not_imp] at other
    obtain ⟨writing, exclusive, holder⟩ := other
    simp [holdsClaim, writing, exclusive, holder]
  · rw [if_pos (by simpa using any)]

end

theorem recheckOnce_spare (spare : r.job.range = none) (good : (c.channelRecord r.channel).w0.good = true) :
    c.recheckOnce r =
      if (c.channelRecord r.channel).management = true ∧ c.inFallback = false then .pass none false else .fail := by
  rw [recheckOnce, spare]
  dsimp only
  rw [if_neg (by simp [good])]
  simp only [Bool.and_eq_true, Bool.not_eq_true']

theorem resolve_found {range : Nat × Nat} {n : Nat} {e : ExtentEntry} (covers : r.job.range = some range)
    (found : c.extentOf range = .found n e) : c.resolve r = (c.setRecords (c.records.map fun q =>
      if q.seq = r.seq then { q with extent := some n } else q)).drainFalls r := by
  rw [resolve, covers]
  dsimp only
  rw [found]
  change (c.setRecords (c.records.map fun q =>
    if (q.seq == r.seq) = true then { q with extent := some n } else q)).drainFalls r = _
  simp only [beq_iff_eq]

theorem resolve_nowhere {range : Nat × Nat} (covers : r.job.range = some range)
    (nowhere : ∀ n e, c.extentOf range ≠ .found n e) : c.resolve r = c := by
  rw [resolve, covers]
  dsimp only
  split
  · rename_i n e found
    exact absurd found (nowhere n e)
  · rfl

/-- In FALLBACK's forms the re-check meets no failing word. -/
theorem recheckOnce_tableFault (c : Controller) (r : Record) : c.tableFault.recheckOnce r ≠ .fault := by
  have good : ∀ e ∈ fallbackExtents.toList, wordsGood e.words = true := by decide
  have word : (c.tableFault.channelRecord r.channel).w0.good = true := by
    rw [tableFault_channelRecord]
    rfl
  cases covers : r.job.range with
  | none =>
    rw [recheckOnce_spare covers word]
    split <;> exact nofun
  | some range =>
    cases found : c.tableFault.extentOf range with
    | fault =>
      refine absurd found ?_
      rw [extentOf, tableFault_extents]
      exact searchExtents_ne_fault good
    | notFound =>
      rw [recheckOnce_notFound covers found]
      exact nofun
    | found n e =>
      rw [recheckOnce_found covers found]
      split
      · exact nofun
      · split <;> exact nofun

theorem rechecked_ne_fault (c : Controller) (r : Record) : (c.rechecked r).recheckOnce r ≠ .fault := by
  unfold rechecked
  split
  · exact recheckOnce_tableFault c r
  · assumption

end

/-! A record that is turned away (R53). -/

theorem turnAway_waiting (c : Controller) {r : Record} (state : r.state ≠ .lingering) :
    c.turnAway r = c.leave r.seq (some { r.answer .revoked with kind := some .revoked }) := by
  unfold turnAway
  split
  · contradiction
  · rfl

theorem turnAway_lingering (c : Controller) {r : Record} (state : r.state = .lingering) :
    c.turnAway r = c.failEarly r .revoked r.job.start := by
  rw [turnAway, state]

theorem leave_records_gone (c : Controller) (seq : Nat) (ans : Option Answer) :
    ∀ q ∈ (c.leave seq ans).records, q.seq ≠ seq := by
  intro q hq
  unfold leave at hq
  cases found : c.findRecord seq with
  | none =>
    rw [found] at hq
    exact findRecord_eq_none found q hq
  | some r =>
    rw [found] at hq
    have among : q ∈ (c.takeOut seq ans).records := by
      have fell := (drainFalls_shared (w := .lists) (c.takeOut seq ans) r).fewer
      dsimp only at hq
      split at hq
      · exact fell.subset ((completeSyncs_shared (w := .lists) ..).fewer.subset hq)
      · exact fell.subset hq
    rw [takeOut_records] at among
    simpa using (List.mem_filter.mp among).2

theorem turnAway_records (c : Controller) (r : Record) :
    (c.turnAway r).records.Sublist c.records ∧ ∀ q ∈ (c.turnAway r).records, q.seq ≠ r.seq := by
  by_cases state : r.state = .lingering
  · rw [turnAway_lingering c state]
    exact ⟨failEarly_records_sublist .., leave_records_gone _ _ _⟩
  · rw [turnAway_waiting c state]
    exact ⟨leave_records_sublist .., leave_records_gone _ _ _⟩

/-! A round of a choice that turns its record away leaves a smaller list. -/

theorem Run.sound {c d : Controller} (h : Run .dispatches c d) (s : c.sequenceSound) : d.sequenceSound :=
  (h.moves fun _ => s).ordered (fun _ => s) rfl

theorem resolve_length (c : Controller) (r : Record) : (c.resolve r).records.length ≤ c.records.length := by
  unfold resolve
  split
  · exact le_rfl
  · split
    · exact (drainFalls_stays ..).fewer.length_le.trans (List.length_map ..).le
    · exact le_rfl

section

variable {c d : Controller} {r : Record} (between : Stays c d) (s : c.sequenceSound) (hr : r ∈ c.eligibles)

include between s

theorem turned_sound : ((d.resolve r).turnAway r).sequenceSound := by
  have later : (d.resolve r).sequenceSound := Run.sound (resolve_run d r) (s.sublist between.fewer between.nextSeq)
  exact Run.sound (turnAway_shared (w := .dispatches) nofun r).run later

include hr

theorem turned_length : ((d.resolve r).turnAway r).records.length < c.records.length := by
  obtain ⟨there, eligible⟩ := mem_eligibles.mp hr
  have waits : r.state ≠ .claimWait := by
    rcases state_of_eligible eligible with h | h
    · simp [h]
    · simp [h]
  obtain ⟨o, ho, seq, -⟩ := resolve_there (s.sublist between.fewer between.nextSeq) (between.stays s r there waits) waits
  obtain ⟨fewer, gone⟩ := turnAway_records (d.resolve r) r
  have smaller : ((d.resolve r).turnAway r).records.length ≠ (d.resolve r).records.length := fun same =>
    gone o (fewer.eq_of_length same ▸ ho) seq
  have less := lt_of_le_of_ne fewer.length_le smaller
  exact less.trans_le ((resolve_length d r).trans between.fewer.length_le)

end

/-! The quotas' words stay readable. -/

theorem tableFault_quotas (c : Controller) : c.tableFault.quotasReadable := fun ch => by
  rw [tableFault_channelRecord]
  rfl

theorem testWord_quotas {c : Controller} (h : c.quotasReadable) (t : TWord) : (c.testWord t).quotasReadable := by
  unfold testWord
  split
  · exact h
  · exact tableFault_quotas c

theorem rechecked_quotas {c : Controller} (h : c.quotasReadable) (r : Record) : (c.rechecked r).quotasReadable := by
  unfold rechecked
  split
  · exact tableFault_quotas c
  · exact h

theorem turnAway_quotas {c : Controller} (h : c.quotasReadable) (r : Record) : (c.turnAway r).quotasReadable := by
  by_cases state : r.state = .lingering
  · rw [turnAway_lingering c state]
    have offered : ((c.setDeferred r.channel _).offer r.channel (.deferredError r.tag)).quotasReadable :=
      testWord_quotas (c := c.setDeferred r.channel
        (some (addFailure (c.work.deferred.get r.channel) r.tag r.job.start .revoked))) h _
    exact offered.of_tables (leave_tables ..)
  · rw [turnAway_waiting c state]
    exact h.of_tables (leave_tables ..)

theorem rechecked_stays (c : Controller) (r : Record) : Stays c (c.rechecked r) := by
  unfold rechecked
  split
  · exact fallbackEntry_stays ..
  · exact .rfl

/-- A choice is made where some record is eligible. -/
theorem exists_pick_of {c : Controller} (limit : Option Nat) {es : List Record} (h : es ≠ []) :
    ∃ r d, c.pick limit es = some (r, d) := by
  cases limit with
  | none => exact exists_sweepChoice (topClass_ne_nil h)
  | some l => exact exists_pick h

/-- More rounds than records make no difference. -/
theorem choose_fuel : ∀ (n m : Nat) (c : Controller), c.sequenceSound → c.quotasReadable → c.records.length < n →
    c.records.length < m → c.choose n = c.choose m
  | 0, _, _, _, _, hn, _ => absurd hn (Nat.not_lt_zero _)
  | _ + 1, 0, _, _, _, _, hm => absurd hm (Nat.not_lt_zero _)
  | n + 1, m + 1, c, s, readable, hn, hm => by
    by_cases none : c.eligibles = []
    · rw [choose_none readable none, choose_none readable none]
    · obtain ⟨r, sweep, picked⟩ := exists_pick_of (c := c.limitRead) c.tables.active.drive.bypassLimit? none
      cases verdict : (c.limitRead.rechecked r).recheckOnce r with
      | fault => exact absurd verdict (rechecked_ne_fault _ _)
      | pass extent verify => rw [choose_pass readable picked verdict, choose_pass readable picked verdict]
      | fail =>
        have between : Stays c (c.limitRead.rechecked r) := (testWord_stays ..).trans (rechecked_stays ..)
        have less := turned_length between s (mem_of_pick picked)
        rw [choose_fail readable picked verdict, choose_fail readable picked verdict]
        refine choose_fuel n m _ (turned_sound between s) (turnAway_quotas ?_ r) ?_ ?_
        · exact (rechecked_quotas (testWord_quotas readable _) r).of_tables (resolve_tables ..)
        · exact less.trans_le (Nat.le_of_lt_succ hn)
        · exact less.trans_le (Nat.le_of_lt_succ hm)

/-- The end of a step whose timers' words are readable does not look back. -/
theorem settle_before {after : Controller} (good : after.timersReadable = true) (before before' : Controller) :
    before.settle after = before'.settle after := by
  simp only [timersReadable, Bool.and_eq_true] at good
  obtain ⟨wait, unload⟩ := good
  have tables : after.startClearing.tables = after.tables := by unfold startClearing; split <;> rfl
  have idle : after.startClearing.settleReadyWait.tables.active.drive.w3.good = true := by
    rw [settleReadyWait_eq (by rw [tables]; exact wait), modDrive_tables, tables]
    exact unload
  rw [settle, settle, settleIdle_eq idle, settleIdle_eq idle]

end Controller

/-- Where the arbiter does the same from another block, it gives the same. -/
theorem gives_arbiter_of_eq {s : State} {left c : Controller} (timers : s.ctl.timersReadable = true)
    (same : s.ctl.arbitrate = left.arbitrate) (h : Gives .arbiterChoice { s with ctl := left } c) :
    Gives .arbiterChoice s c := by
  have good : s.ctl.arbitrate.timersReadable = true :=
    Controller.timers_of_record (Controller.arbitrate_record _) timers
  have run : exec .arbiterChoice s = exec .arbiterChoice { s with ctl := left } := by
    have settled : s.ctl.settle s.ctl.arbitrate = left.settle left.arbitrate := by
      rw [← same]
      exact Controller.settle_before good _ _
    rw [exec_eq_run, exec_eq_run]
    exact congrArg (fun c => Host.Outcome.next { s with ctl := c }) settled
  obtain ⟨t, ht, pending, end_⟩ := h
  exact ⟨t, run.trans ht, pending, end_⟩

open Controller in
/-- Settles O32: one re-check by its extent, the resolution, and a choice in READY round by round. -/
theorem recheckJudgesAtDispatch : Obligations.RecheckJudgesAtDispatch := by
  refine ⟨fun c r lo hi n e covers => ⟨fun found => ⟨recheckOnce_permitted covers found,
      recheckOnce_forbidden covers found⟩, recheckOnce_notFound covers⟩,
    fun c r spare good => recheckOnce_spare spare good,
    fun c r => ⟨fun spare => by rw [resolve, spare], fun range covers =>
      ⟨fun n e found => resolve_found covers found, resolve_nowhere covers⟩⟩, ?_, ?_⟩
  · intro s r sweep timers limit readable notices idle state clearing picked fails
    have start : s.ctl.limitRead = s.ctl := limitRead_good limit
    have judged : s.ctl.rechecked r = s.ctl := if_neg (by rw [fails]; exact nofun)
    have bypass : s.ctl.tables.active.drive.bypassLimit? = some s.ctl.tables.active.drive.bypassLimit := if_pos limit
    have turns : s.ctl.arbitrate = ((s.ctl.resolve r).turnAway r).choose s.ctl.records.length := by
      have fail := choose_fail (c := s.ctl) readable (by rw [start, bypass]; exact picked)
        (by rw [start, judged, fails]) s.ctl.records.length
      rw [start, judged] at fail
      exact (arbitrate_ready idle state clearing).trans fail
    have ends : ∀ {c : Controller}, (s.ctl.resolve r).turnAway r = c → c.tables = s.ctl.tables → c.eligibles = [] →
        Gives .arbiterChoice s c := fun {c} turned tables none => by
      have still := choose_none (quotasReadable.of_tables readable tables) none s.ctl.records.length
      exact gives_of_record (i := .arbiterChoice) timers (turns.trans ((congrArg (choose _ ·) turned).trans still))
        (congrArg (·.active.drive) tables)
    refine ⟨fun waiting => ?_, fun lingering => ?_⟩
    · have other : r.state ≠ .lingering := by simp [waiting]
      exact fun none => ends (turnAway_waiting _ other) ((leave_tables ..).trans (resolve_tables ..)) none
    · have notices' : (s.ctl.resolve r).noticesReadable r.channel = true := by
        rw [noticesReadable, channelRecord, resolve_tables]
        exact notices
      exact fun none => ends (turnAway_lingering _ lingering)
        ((failEarly_tables notices' ..).trans (resolve_tables ..)) none
  · intro s r sweep timers sound readable idle state clearing limit eligible start picked judged
    have round := arbitrate_ready idle state clearing
    refine ⟨fun extent verify pass => ?_, fun fail => ?_, rechecked_ne_fault start r⟩
    · have passed := choose_pass (c := s.ctl) readable picked pass s.ctl.records.length
      rw [dispatch_eq_dispatched] at passed
      have choice := round.trans passed
      exact gives_of_record (i := .arbiterChoice) timers choice
        ((congrArg (·.tables.active.drive) choice).symm.trans (arbitrate_record _))
    · intro left c gives
      have turned : (judged.resolve r).turnAway r = left := by
        by_cases lingers : r.state = .lingering
        · exact (turnAway_lingering _ lingers).trans (if_pos lingers).symm
        · exact (turnAway_waiting _ lingers).trans (if_neg lingers).symm
      have between : Stays s.ctl judged := (testWord_stays s.ctl _).trans (rechecked_stays ..)
      have drive : left.drive = s.ctl.drive := by
        rw [← turned]
        exact ((testWord_sameRest s.ctl _).trans ((rechecked_sameRest _ r).trans ((resolve_sameRest _ r).trans
          (turnAway_sameRest _ r)))).drive
      have quiet : left.NoActive := by
        rw [← turned]
        exact (((noActive_iff.mpr idle).fewer between.fewer).resolve r).fewer (turnAway_records _ r).1
      have leftReadable : left.quotasReadable := by
        rw [← turned]
        exact turnAway_quotas ((rechecked_quotas (testWord_quotas readable _) r).of_tables (resolve_tables ..)) r
      have leftSound : left.sequenceSound := turned ▸ turned_sound between sound
      have less : left.records.length < s.ctl.records.length := by
        rw [← turned]
        exact turned_length between sound (mem_of_pick picked)
      have again := arbitrate_ready (noActive_iff.mp quiet) (by rw [drive]; exact state) (by rw [drive]; exact clearing)
      have failed := choose_fail (c := s.ctl) readable picked fail s.ctl.records.length
      have same : s.ctl.arbitrate = left.arbitrate := by
        rw [round, failed, again]
        exact (congrArg (choose _ ·) turned).trans
          (choose_fuel _ _ left leftSound leftReadable less (Nat.lt_succ_self _))
      exact gives_arbiter_of_eq timers same gives

end Sys2Proof.Machine
end


section
/-! The records that wait on the drive, ended one by one (O50). -/

namespace Sys2Proof.Machine

namespace Controller

/-! A failed early write with no SYNC and no drain that its leaving could touch (R42, R109). -/

theorem completeSyncs_none {c : Controller} (h : ∀ q ∈ c.records, q.state ≠ .syncWait) (ch : Channel) :
    c.completeSyncs ch = c := by
  have none : c.records.filter (c.syncComplete ch) = [] :=
    List.filter_eq_nil_iff.mpr fun q hq => by simp [syncComplete, h q hq]
  rw [completeSyncs, none]
  rfl

/-- The block as a failure is recorded and offered, before its record leaves. -/
def failureTaken (c : Controller) (r : Record) (kind : ErrorKind) : Controller :=
  (c.setDeferred r.channel (some (addFailure (c.work.deferred.get r.channel) r.tag r.job.start kind))).offerUntested
    r.channel (.deferredError r.tag)

section

variable {c : Controller} {r : Record} (found : c.findRecord r.seq = some r) (state : r.state = .lingering)
  (readable : c.noticesReadable r.channel = true) (syncs : ∀ q ∈ c.records, q.state ≠ .syncWait)
  (drains : ∀ n toWaiter, ¬(r.inDrain r.channel n = true ∧ c.claimAt n = some (.handingOver r.channel toWaiter)))

include found state readable syncs drains

theorem failEarly_alone (kind : ErrorKind) :
    c.failEarly r kind r.job.start = (c.failureTaken r kind).takeOut r.seq none := by
  have offered : c.failEarly r kind r.job.start = (c.failureTaken r kind).leave r.seq none := by
    have word : ((c.setDeferred r.channel (some (addFailure (c.work.deferred.get r.channel) r.tag r.job.start
      kind))).channelRecord r.channel).w2.good = true := readable
    unfold failEarly
    dsimp only
    rw [offer, testWord_good _ word]
    rfl
  have here : (c.failureTaken r kind).findRecord r.seq = some r := found
  have still : ((c.failureTaken r kind).takeOut r.seq none).drainFalls r = (c.failureTaken r kind).takeOut r.seq none :=
    drainFalls_of_not fun n toWaiter ⟨counted, handing, _⟩ => drains n toWaiter
      ⟨counted, (congrArg (·[n]?.join) (takeOut_claims (c.failureTaken r kind) r.seq none)).symm.trans handing⟩
  rw [offered, leave_awaited here none (.inl state), still]
  exact completeSyncs_none (fun q hq =>
    syncs q ((takeOut_records_sublist (c.failureTaken r kind) r.seq none).subset hq)) _

end

/-! What the ending of waiting records does (R132). -/

/-- The record waits on the drive. -/
def waitsOnDrive (r : Record) : Bool := r.state == .waiting || r.state == .lingering

/-- `d` is `c` with the records of the list ended: the WAITING ones answered, the LINGERING ones failed. -/
structure EndedBy (ans : Record → Answer) (kind : ErrorKind) (c : Controller) (l : List Record) (d : Controller) :
    Prop where
  records : d.records = c.records.filter fun r => !(l.contains r && waitsOnDrive r)
  nextSeq : d.work.nextSeq = c.work.nextSeq
  ready : ∀ ch, (d.port ch).ready =
    (c.port ch).ready ++ ((l.filter (·.state == .waiting)).filter (·.channel == ch)).map ans
  deferred : ∀ ch, d.work.deferred.get ch = ((l.filter (·.state == .lingering)).filter (·.channel == ch)).foldl
    (fun f r => some (addFailure f r.tag r.job.start kind)) (c.work.deferred.get ch)
  commitPending : d.work.commitPending = c.work.commitPending
  claims : d.claims = c.claims
  tables : d.tables = c.tables
  engine : d.engine = c.engine
  media : d.media = c.media
  drive : d.drive = c.drive
  buffers : d.buffers = c.buffers

namespace EndedBy

variable {ans : Record → Answer} {kind : ErrorKind} {c d e : Controller} {r : Record} {l : List Record}

theorem nil : EndedBy ans kind c [] c := by
  constructor <;> simp

theorem cons (h : EndedBy ans kind c [r] d) (k : EndedBy ans kind d l e) : EndedBy ans kind c (r :: l) e where
  records := by
    rw [k.records, h.records, List.filter_filter]
    refine List.filter_congr fun q _ => ?_
    rw [List.contains_cons, List.contains_cons, List.contains_nil, Bool.or_false]
    cases q == r <;> cases l.contains q <;> cases waitsOnDrive q <;> rfl
  nextSeq := k.nextSeq.trans h.nextSeq
  ready ch := by
    have split : (r :: l) = [r] ++ l := rfl
    rw [k.ready ch, h.ready ch, split, List.filter_append, List.filter_append, List.map_append, List.append_assoc]
  deferred ch := by
    have split : (r :: l) = [r] ++ l := rfl
    rw [k.deferred ch, h.deferred ch, split, List.filter_append, List.filter_append, List.foldl_append]
  commitPending := k.commitPending.trans h.commitPending
  claims := k.claims.trans h.claims
  tables := k.tables.trans h.tables
  engine := k.engine.trans h.engine
  media := k.media.trans h.media
  drive := k.drive.trans h.drive
  buffers := k.buffers.trans h.buffers

theorem sound (h : EndedBy ans kind c l d) (s : c.sequenceSound) : d.sequenceSound :=
  s.sublist (h.records ▸ List.filter_sublist) h.nextSeq

/-- A record that does not wait is left alone. -/
theorem other (state : waitsOnDrive r = false) : EndedBy ans kind c [r] c := by
  simp only [waitsOnDrive, Bool.or_eq_false_iff] at state
  obtain ⟨waiting, lingering⟩ := state
  have none : ∀ q : Record, ([r].contains q && waitsOnDrive q) = false := fun q => by
    by_cases same : q = r
    · subst same
      simp [waitsOnDrive, waiting, lingering]
    · simp [same]
  constructor
  case records => simp only [none, Bool.not_false, List.filter_true]
  all_goals simp [waiting, lingering]

section

variable (s : c.sequenceSound) (there : r ∈ c.records)

include s there

/-- The taking out of the one record. -/
theorem records_takeOut (state : waitsOnDrive r = true) :
    (c.records.filter (·.seq != r.seq)) = c.records.filter fun q => !([r].contains q && waitsOnDrive q) := by
  refine List.filter_congr fun q hq => ?_
  by_cases same : q = r
  · subst same
    simp [state]
  · have ne : q.seq ≠ r.seq := fun eq => same (s.eq_of_seq hq there eq)
    simp [same, ne]

theorem waiting (state : r.state = .waiting) : EndedBy ans kind c [r] (c.takeOut r.seq (some (ans r))) := by
  have found : c.findRecord r.seq = some r := s.findRecord there
  have waits : waitsOnDrive r = true := by simp [waitsOnDrive, state]
  have rest := takeOut_sameRest c r.seq (some (ans r))
  constructor
  case records => rw [takeOut_records, records_takeOut s there waits]
  case nextSeq => exact takeOut_nextSeq ..
  case ready =>
    intro ch
    by_cases own : ch = r.channel
    · subst own
      rw [takeOut_port_self found, Port.leaveWith_ready]
      simp [state]
    · rw [takeOut_port_of_ne found _ own]
      simp [state, Ne.symm own]
  case deferred => simp [state, takeOut_deferred]
  case commitPending => simp [takeOut_commitPending found, state]
  case claims => exact takeOut_claims ..
  case tables => exact takeOut_tables ..
  case engine => exact takeOut_engine ..
  case media => exact rest.media
  case drive => exact rest.drive
  case buffers => exact rest.buffers

theorem lingering (state : r.state = .lingering) :
    EndedBy ans kind c [r] ((c.failureTaken r kind).takeOut r.seq none) := by
  have found : (c.failureTaken r kind).findRecord r.seq = some r := s.findRecord there
  have waits : waitsOnDrive r = true := by simp [waitsOnDrive, state]
  have rest := takeOut_sameRest (c.failureTaken r kind) r.seq none
  constructor
  case records => rw [takeOut_records, ← records_takeOut s there waits]; rfl
  case nextSeq => exact takeOut_nextSeq ..
  case ready =>
    intro ch
    have kept : ((c.failureTaken r kind).port ch).ready = (c.port ch).ready := by
      by_cases own : ch = r.channel
      · subst own
        exact (congrArg Port.ready (modPort_port_self ..)).trans (Port.takeNotice_ready ..)
      · exact congrArg Port.ready (PerChannel.get_set_of_ne _ _ own)
    rcases takeOut_port (c.failureTaken r kind) r.seq none ch with same | left
    · rw [same, kept]
      simp [state]
    · rw [left, Port.leaveWith_ready, kept]
      simp [state]
  case deferred =>
    intro ch
    rw [takeOut_deferred]
    change (c.work.deferred.set r.channel _).get ch = _
    by_cases own : ch = r.channel
    · subst own
      rw [PerChannel.get_set_self]
      simp [state]
    · rw [PerChannel.get_set_of_ne _ _ own]
      simp [state, Ne.symm own]
  case commitPending => rw [takeOut_commitPending found, state]; exact Bool.and_true _
  case claims => exact takeOut_claims ..
  case tables => exact takeOut_tables ..
  case engine => exact takeOut_engine ..
  case media => exact rest.media
  case drive => exact rest.drive
  case buffers => exact rest.buffers

end

end EndedBy

/-- The conditions in which an ending moves no claim and no SYNC, and every notice enable set is readable. -/
structure Undisturbed (c : Controller) : Prop where
  sound : c.sequenceSound
  readable : c.enablesReadable
  syncs : ∀ q ∈ c.records, q.state ≠ .syncWait
  drains : ∀ n h toWaiter, c.claimAt n ≠ some (.handingOver h toWaiter)

section

variable {ans : Record → Answer} {kind : ErrorKind} {c d : Controller}

theorem Undisturbed.ended {l : List Record} (h : c.Undisturbed) (k : EndedBy ans kind c l d) : d.Undisturbed where
  sound := k.sound h.sound
  readable ch := by
    rw [noticesReadable, channelRecord, k.tables]
    exact h.readable ch
  syncs q hq := h.syncs q (List.mem_of_mem_filter (k.records ▸ hq))
  drains n holder toWaiter := by
    rw [claimAt, k.claims]
    exact h.drains n holder toWaiter

theorem endWaiting_ended (h : c.Undisturbed) {r : Record} (there : r ∈ c.records) :
    EndedBy ans kind c [r] (c.endWaiting ans (some kind) r) := by
  have found : c.findRecord r.seq = some r := h.sound.findRecord there
  by_cases waiting : r.state = .waiting
  · rw [endWaiting_of_waiting waiting, leave_eq_takeOut found (by simp [waiting]) (by simp [waiting])]
    exact .waiting h.sound there waiting
  · by_cases lingering : r.state = .lingering
    · rw [endWaiting_of_lingering lingering, failEarly_alone found lingering (h.readable _) h.syncs
        fun n toWaiter ⟨_, handing⟩ => h.drains n _ toWaiter handing]
      exact .lingering h.sound there lingering
    · rw [endWaiting_of_ne waiting lingering]
      exact .other (by simp [waitsOnDrive, waiting, lingering])

/-- The records of a list are ended in its order. -/
theorem foldl_endWaiting_ended : ∀ (l : List Record) {c : Controller}, c.Undisturbed → l.Nodup →
    (∀ r ∈ l, r ∈ c.records) → EndedBy ans kind c l (l.foldl (fun c r => c.endWaiting ans (some kind) r) c)
  | [], _, _, _, _ => .nil
  | r :: l, c, h, nodup, there => by
    obtain ⟨out, nodup⟩ := List.nodup_cons.mp nodup
    have first : EndedBy ans kind c [r] (c.endWaiting ans (some kind) r) :=
      endWaiting_ended h (there r (List.mem_cons_self ..))
    refine first.cons (foldl_endWaiting_ended l (h.ended first) nodup fun q hq => ?_)
    rw [first.records, List.mem_filter]
    have other : q ≠ r := fun eq => out (eq ▸ hq)
    exact ⟨there q (List.mem_cons_of_mem _ hq), by simp [other]⟩

theorem endAllWaiting_ended (h : c.Undisturbed) :
    EndedBy ans kind c (c.records.filter (·.isDisk)) (c.endAllWaiting ans (some kind)) :=
  foldl_endWaiting_ended _ h (h.sound.records_nodup.filter _) fun _ hr => List.mem_of_mem_filter hr

/-- A disk record that alone waits on the drive is the one ended. -/
theorem endAllWaiting_last {old : List Record} {r : Record} (records : c.records = old ++ [r])
    (others : ∀ q ∈ old, q.isDisk = true → q.state ≠ .waiting ∧ q.state ≠ .lingering) (kind? : Option ErrorKind) :
    c.endAllWaiting ans kind? = if r.isDisk = true then c.endWaiting ans kind? r else c := by
  have before : ∀ (l : List Record), (∀ q ∈ l, q.state ≠ .waiting ∧ q.state ≠ .lingering) →
      l.foldl (fun c q => c.endWaiting ans kind? q) c = c := by
    intro l still
    induction l with
    | nil => rfl
    | cons q l ih =>
      obtain ⟨waiting, lingering⟩ := still q (List.mem_cons_self ..)
      rw [List.foldl_cons, endWaiting_of_ne waiting lingering]
      exact ih fun p hp => still p (List.mem_cons_of_mem _ hp)
  rw [endAllWaiting, records, List.filter_append, List.foldl_append, before _ fun q hq => ?_]
  · by_cases disk : r.isDisk = true
    · rw [if_pos disk, List.filter_cons_of_pos disk]
      rfl
    · rw [if_neg disk, List.filter_cons_of_neg disk]
      rfl
  · obtain ⟨there, disk⟩ := List.mem_filter.mp hq
    exact others q there disk

end

end Controller

end Sys2Proof.Machine
end


section
/-! The ready-wait timer, and disk orders accepted in FAULTED (O50). -/

namespace Sys2Proof.Machine

theorem PerChannel.ext_get {α : Type} {p q : PerChannel α} (h : ∀ ch, p.get ch = q.get ch) : p = q := by
  cases p
  cases q
  exact congrArg₂ PerChannel.mk (h .a) (h .b)

namespace Controller

theorem readyWaitEnds_idle {c : Controller} (h : c.drive.readyWait = none) : c.readyWaitEnds = c :=
  if_neg (by simp [h])

theorem readyWaitEnds_running {c : Controller} (h : c.drive.readyWait ≠ none) : c.readyWaitEnds =
    (c.modDrive fun d => { d with readyWait := none }).endAllWaiting
      (fun r => { r.answer .notReady with kind := some .notReady }) (some .notReady) :=
  if_pos (Option.isSome_iff_ne_none.mpr h)

/-! A record that has just entered the Work List (R30, R131). -/

/-- `d` is `s` with the record of an order of the channel at the end of the Work List. -/
structure AddedTo (s : Controller) (ch : Channel) (r : Record) (d : Controller) : Prop where
  records : d.records = s.records ++ [r]
  sound : d.sequenceSound
  nextSeq : d.work.nextSeq = s.work.nextSeq + 1
  commitPending : d.work.commitPending = s.work.commitPending
  deferred : d.work.deferred = s.work.deferred
  other : (d.port ch.other).ready = (s.port ch.other).ready
  box : (d.port ch).box = (s.port ch).box
  tables : d.tables = s.tables
  claims : d.claims = s.claims
  drive : d.drive = s.drive
  engine : d.engine = s.engine
  media : d.media = s.media

/-- What an order that is ended at once leaves of the block it came to. -/
def LeftAs (s : Controller) (ch : Channel) (c : Controller) : Prop :=
  c.records = s.records ∧ c.work.nextSeq = s.work.nextSeq + 1 ∧ c.work.commitPending = s.work.commitPending ∧
    (c.port ch.other).ready = (s.port ch.other).ready ∧ c.tables = s.tables ∧ c.claims = s.claims ∧
    c.drive = s.drive ∧ c.engine = s.engine ∧ c.media = s.media

/-- A frame is taken, buffers are filled and the record enters. -/
theorem addRecord_added {s : Controller} (sound : s.sequenceSound) (ch : Channel) {r : Record}
    (seq : r.seq = s.work.nextSeq) (b : Vector (List Word) 12) :
    AddedTo s ch r (({ s.frameTaken ch with buffers := b } : Controller).addRecord r) where
  records := rfl
  sound := sequenceSound.addRecord (c := { s.frameTaken ch with buffers := b }) sound seq
  nextSeq := rfl
  commitPending := rfl
  deferred := rfl
  other := frameTaken_ready s ch ch.other
  box := Prod.ext (frameTaken_notices s ch ch) (frameTaken_overflow s ch ch)
  tables := rfl
  claims := rfl
  drive := rfl
  engine := rfl
  media := rfl

theorem AddedTo.placeAnswer {s d : Controller} {ch : Channel} {r : Record} (h : AddedTo s ch r d) (a : Answer) :
    AddedTo s ch r (d.placeAnswer ch a) where
  records := h.records
  sound := h.sound
  nextSeq := h.nextSeq
  commitPending := h.commitPending
  deferred := h.deferred
  other := (congrArg Port.ready (modPort_port_other ..)).trans h.other
  box := (congrArg Port.box (modPort_port_self ..)).trans h.box
  tables := h.tables
  claims := h.claims
  drive := h.drive
  engine := h.engine
  media := h.media

section

variable {s d e : Controller} {ch : Channel} {r : Record} {ans : Record → Answer} {kind : ErrorKind}
  (added : AddedTo s ch r d)

include added

theorem AddedTo.there : r ∈ d.records := added.records ▸ List.mem_append_right _ (List.mem_singleton_self r)

/-- Its ending leaves the Work List as it was. -/
theorem AddedTo.leftAs (own : r.channel = ch) (waits : waitsOnDrive r = true) (ended : EndedBy ans kind d [r] e) :
    LeftAs s ch e := by
  have fresh : ∀ q ∈ s.records, q ≠ r := fun q hq eq => by
    have nodup := added.sound.records_nodup
    rw [added.records] at nodup
    exact (List.disjoint_of_nodup_append nodup) (eq ▸ hq) (List.mem_singleton_self r)
  have other : ((d.port ch.other).ready ++ (([r].filter (·.state == .waiting)).filter (·.channel == ch.other)).map ans) =
      (s.port ch.other).ready := by
    have none : ([r].filter (·.state == .waiting)).filter (·.channel == ch.other) = [] := by
      refine List.filter_eq_nil_iff.mpr fun q hq => ?_
      obtain rfl := List.mem_singleton.mp (List.mem_of_mem_filter hq)
      simp [own, (channel_other_ne ch).symm]
    rw [none, added.other]
    exact List.append_nil _
  refine ⟨?_, ended.nextSeq.trans added.nextSeq, ended.commitPending.trans added.commitPending,
    (ended.ready ch.other).trans other, ended.tables.trans added.tables, ended.claims.trans added.claims,
    ended.drive.trans added.drive, ended.engine.trans added.engine, ended.media.trans added.media⟩
  rw [ended.records, added.records, List.filter_append, List.filter_eq_self.mpr fun q hq => by simp [fresh q hq],
    List.filter_cons_of_neg (by simp [waits])]
  exact List.append_nil _

/-- In FAULTED the record is ended if it is a disk record, and waits otherwise. -/
theorem AddedTo.endInFault {fault : DriveFault} (state : s.drive.state = .faulted fault)
    (others : ∀ q ∈ s.records, q.isDisk = true → q.state ≠ .waiting ∧ q.state ≠ .lingering) : d.endInFault =
      if r.isDisk = true then d.endWaiting (·.answer .driveFault) (some fault.deferredKind) r else d := by
  have faulted : d.endInFault = d.endForFault fault := by
    rw [Controller.endInFault, added.drive, state]
  exact faulted.trans (endAllWaiting_last added.records others _)

/-- A WAITING disk record that enters in FAULTED is answered DRIVE-FAULT (R131). -/
theorem AddedTo.answeredInFault {fault : DriveFault} (state : s.drive.state = .faulted fault)
    (others : ∀ q ∈ s.records, q.isDisk = true → q.state ≠ .waiting ∧ q.state ≠ .lingering)
    (disk : r.isDisk = true) (waiting : r.state = .waiting) :
    EndedBy (·.answer .driveFault) fault.deferredKind d [r] d.endInFault := by
  have found : d.findRecord r.seq = some r := added.sound.findRecord added.there
  rw [added.endInFault state others, if_pos disk, endWaiting_of_waiting waiting,
    leave_eq_takeOut found (by simp [waiting]) (by simp [waiting])]
  exact .waiting added.sound added.there waiting

end

/-! An order of the disk accepted in FAULTED. -/

section

variable {s : State} {ch : Channel} {f : OrderFrame} {fault : DriveFault} (timers : s.ctl.timersReadable = true)
  (state : s.ctl.drive.state = .faulted fault) (sound : s.ctl.sequenceSound)
  (others : ∀ r ∈ s.ctl.records, r.isDisk = true → r.state ≠ .waiting ∧ r.state ≠ .lingering)

include timers state sound others

/-- An order whose acceptance adds a WAITING disk record and ends it. -/
theorem ended_in_fault {i : Instr} {fn : Func} {accept : Controller → Controller} {r : Record}
    {b : Vector (List Word) 12} (effect : i.effect s.ctl = s.ctl.order (.of fn ch f) accept)
    (passes : s.ctl.passes (.of fn ch f) = true)
    (accepts : accept (s.ctl.frameTaken ch) =
      (({ s.ctl.frameTaken ch with buffers := b } : Controller).addRecord r).endInFault)
    (seq : r.seq = s.ctl.work.nextSeq) (own : r.channel = ch) (disk : r.isDisk = true) (waiting : r.state = .waiting) :
    ∃ c : Controller, Gives i s c ∧ LeftAs s.ctl ch c ∧ c.buffers = b ∧ c.work.deferred = s.ctl.work.deferred ∧
      (c.port ch).ready = (s.ctl.port ch).ready ++ [r.answer .driveFault] := by
  have added := addRecord_added sound ch seq b
  have ended := added.answeredInFault state others disk waiting
  have waits : waitsOnDrive r = true := by simp [waitsOnDrive, waiting]
  have left := added.leftAs own waits ended
  refine ⟨_, accepted_gives effect passes accepts ?_, left, ended.buffers, ?_, ?_⟩
  · exact timers_of_record (congrArg (·.active.drive) (ended.tables.trans added.tables)) timers
  · refine PerChannel.ext_get fun d => ?_
    rw [ended.deferred d, added.deferred]
    simp [waiting]
  · rw [ended.ready ch]
    have placed : (({ s.ctl.frameTaken ch with buffers := b } : Controller).addRecord r).port ch =
      (s.ctl.frameTaken ch).port ch := rfl
    rw [placed, frameTaken_ready]
    simp [waiting, own]

end

/-- Filling buffers changes nothing else. -/
theorem fillBuffers_eq (data : List Word) (held : List Nat) (c : Controller) :
    c.fillBuffers held data = { c with buffers := (c.fillBuffers held data).buffers } := by
  have fold : ∀ (l : List (Nat × Nat)) (c : Controller),
      l.foldl (fun c p => c.setBuffer p.1 (sectorWords data p.2)) c =
        { c with buffers := (l.foldl (fun c p => c.setBuffer p.1 (sectorWords data p.2)) c).buffers } := by
    intro l
    induction l with
    | nil => exact fun _ => rfl
    | cons p l ih => exact fun c => ih (c.setBuffer p.1 (sectorWords data p.2))
  exact fold ..

/-- The buffers after a filling depend on the buffers alone. -/
theorem fillBuffers_buffers_congr (data : List Word) {c d : Controller} (held : List Nat) (h : c.buffers = d.buffers) :
    (c.fillBuffers held data).buffers = (d.fillBuffers held data).buffers := by
  have fold : ∀ (l : List (Nat × Nat)) (c d : Controller), c.buffers = d.buffers →
      (l.foldl (fun c p => c.setBuffer p.1 (sectorWords data p.2)) c).buffers =
        (l.foldl (fun c p => c.setBuffer p.1 (sectorWords data p.2)) d).buffers := by
    intro l
    induction l with
    | nil => exact fun _ _ h => h
    | cons p l ih =>
      exact fun c d h => ih _ _ (congrArg (fun b => b.setIfInBounds p.1 (sectorWords data p.2)) h)
  exact fold _ _ _ h

/-- The outcome of an early write that fails as soon as it is there (R109, R131). -/
theorem AddedTo.failedInFault {s d : Controller} {ch : Channel} {r : Record} {fault : DriveFault}
    (added : AddedTo s ch r d) (state : s.drive.state = .faulted fault)
    (others : ∀ q ∈ s.records, q.isDisk = true → q.state ≠ .waiting ∧ q.state ≠ .lingering)
    (own : r.channel = ch) (disk : r.isDisk = true) (lingering : r.state = .lingering)
    (readable : s.noticesReadable ch = true) (syncs : s.anyIn .syncWait = false)
    (drains : ∀ n toWaiter, r.extent = some n → s.claimAt n ≠ some (.handingOver ch toWaiter)) :
    d.endInFault = (d.failureTaken r fault.deferredKind).takeOut r.seq none := by
  subst own
  have found : d.findRecord r.seq = some r := added.sound.findRecord added.there
  have readable' : d.noticesReadable r.channel = true := by
    rw [noticesReadable, channelRecord, added.tables]
    exact readable
  have syncs' : ∀ q ∈ d.records, q.state ≠ .syncWait := by
    intro q hq
    rw [added.records] at hq
    rcases List.mem_append.mp hq with old | new
    · intro waits
      exact ne_true_of_eq_false syncs (anyIn_eq_true.mpr ⟨q, old, waits⟩)
    · rw [List.mem_singleton.mp new, lingering]
      decide
  have drains' : ∀ n toWaiter, ¬(r.inDrain r.channel n = true ∧
      d.claimAt n = some (.handingOver r.channel toWaiter)) := by
    rintro n toWaiter ⟨counted, handing⟩
    obtain ⟨-, -, extent, -⟩ := inDrain_iff.mp counted
    rw [claimAt, added.claims] at handing
    exact drains n toWaiter extent handing
  rw [added.endInFault state others, if_pos disk, endWaiting_of_lingering lingering,
    failEarly_alone found lingering readable' syncs' drains']

end Controller

end Sys2Proof.Machine
end


section
/-! The ready-wait timer's expiry and the disk orders in FAULTED, settled (O50). -/

namespace Sys2Proof.Machine

namespace Controller

/-! What an expiry of the ready-wait timer ends (R132). -/

/-- The answer of a record that the ready-wait timer ends. -/
def notReadyAnswer (r : Record) : Answer := { r.answer .notReady with kind := some .notReady }

theorem readyWait_ended {c : Controller} (h : c.Undisturbed) :
    EndedBy notReadyAnswer .notReady (c.modDrive fun d => { d with readyWait := none }) (c.records.filter (·.isDisk))
      ((c.modDrive fun d => { d with readyWait := none }).endAllWaiting notReadyAnswer (some .notReady)) :=
  endAllWaiting_ended (c := c.modDrive fun d => { d with readyWait := none }) ⟨h.sound, h.readable, h.syncs, h.drains⟩

/-- Of the disk records, those of a kind, in the words of the rule. -/
theorem filter_disk (l : List Record) (p : Record → Bool) :
    (l.filter (·.isDisk)).filter p = l.filter fun r => r.isDisk && p r := by
  rw [List.filter_filter]
  exact List.filter_congr fun r _ => Bool.and_comm ..

/-- A record is neither a WAITING nor a LINGERING disk record, in the words of the rule. -/
theorem stays_iff {l : List Record} {r : Record} (hr : r ∈ l) : (!((l.filter (·.isDisk)).contains r && waitsOnDrive r)) =
    (!(r.isDisk && r.state == .waiting) && !(r.isDisk && r.state == .lingering)) := by
  have listed : (l.filter (·.isDisk)).contains r = r.isDisk := by
    rw [Bool.eq_iff_iff]
    simp [hr]
  rw [listed, waitsOnDrive]
  cases r.isDisk <;> cases r.state == .waiting <;> rfl

/-! The disk orders in FAULTED, one by one. -/

theorem deferredKind_eq (fault : DriveFault) : fault.deferredKind = match fault with
    | .spinUp => ErrorKind.notReady
    | .recal => .seek
    | .writeFault => .writeFault := by cases fault <;> rfl

/-- A disk order other than WRITE adds its record and ends it in FAULTED. -/
theorem acceptDisk_added {c : Controller} {fn : Func} {ch : Channel} {f : OrderFrame} {job : Job} {extent : Option Nat}
    (number : c.extentNumber (.of fn ch f) = extent) : c.acceptDisk (.of fn ch f) job = (c.addRecord
      { c.recordFor ch f job .waiting with cls := Class.ofNat? f.cls.toNat, extent := extent }).endInFault := by
  rw [acceptDisk, number]
  rfl

section

variable {c : Controller} {ch : Channel} {f : OrderFrame} {n start count : Nat} {data : List Word}
  (number : c.extentNumber (.of .write ch f) = some n)

include number

theorem acceptWrite_added_waiting (late : c.answersEarly (.of .write ch f) = false) :
    c.acceptWrite (.of .write ch f) start count data = ((c.fillBuffers (c.freeBuffers.take count) data).addRecord
      (c.writeRecord ch f start count n .waiting false)).endInFault := by
  rw [acceptWrite, number, late]
  rfl

theorem acceptWrite_added_early (early : c.answersEarly (.of .write ch f) = true) :
    c.acceptWrite (.of .write ch f) start count data = (((c.fillBuffers (c.freeBuffers.take count) data).addRecord
      (c.writeRecord ch f start count n .lingering true)).placeAnswer ch
        { answerTo f .write .done with early := true }).endInFault := by
  rw [acceptWrite, number, early]
  rfl

end

/-! The early write that fails. -/

/-- The answers of the channel after an early answer, and after a leaving with none. -/
theorem placedReady (s : Controller) (ch : Channel) (b : Vector (List Word) 12) (r : Record) (a : Answer)
    (ans : Record → Answer) (lingering : r.state = .lingering) :
    ((((({ s.frameTaken ch with buffers := b } : Controller).addRecord r).placeAnswer ch a).port ch).ready ++
      (([r].filter (·.state == .waiting)).filter (·.channel == ch)).map ans) = (s.port ch).ready ++ [a] := by
  have placed : (((({ s.frameTaken ch with buffers := b } : Controller).addRecord r).placeAnswer ch a).port ch).ready =
      ((s.frameTaken ch).port ch).ready ++ [a] := congrArg Port.ready (modPort_port_self ..)
  rw [placed, frameTaken_ready]
  simp [lingering]

section

variable {s d : Controller} {r : Record} (added : AddedTo s r.channel r d) (kind : ErrorKind)

include added

theorem failureTaken_deferred (clear : s.work.deferred.get r.channel = none) :
    (d.failureTaken r kind).work.deferred = s.work.deferred.set r.channel
      (some { tag := r.tag, lsa := r.job.start, kind := kind, further := 0 }) := by
  change d.work.deferred.set r.channel (some (addFailure (d.work.deferred.get r.channel) r.tag r.job.start kind)) = _
  rw [added.deferred, clear]
  rfl

theorem failureTaken_notices : ((d.failureTaken r kind).port r.channel).notices = ((s.port r.channel).takeNotice
    ((s.channelRecord r.channel).enables 7) (.deferredError r.tag)).notices := by
  have told : ((d.failureTaken r kind).port r.channel).notices =
      ((d.port r.channel).takeNotice ((d.channelRecord r.channel).enables 7) (.deferredError r.tag)).notices :=
    congrArg Port.notices (modPort_port_self ..)
  rw [told, channelRecord, added.tables]
  exact congrArg Prod.fst (Port.takeNotice_box added.box _ _)

end

end Controller

open Controller in
/-- Settles O50: the expiry record by record, then each disk order that comes in FAULTED. -/
theorem readyWaitEndsWaitingRecords : Obligations.ReadyWaitEndsWaitingRecords := by
  refine ⟨fun s timers => ⟨fun idle => ?_, fun running => ?_, fun running sound readA readB syncs drains => ?_⟩, ?_⟩
  · exact gives_of_record (i := .readyWaitExpiry) timers (readyWaitEnds_idle idle) (Eq.refl _)
  · have ends := (readyWaitEnds_running running).trans (endAllWaiting_some ..)
    exact gives_of_record (i := .readyWaitExpiry) timers ends
      ((congrArg (·.tables.active.drive) (endAllWaiting_some ..)).symm.trans (endAllWaiting_sameRest ..).record)
  · intro waiting lingering
    have readable : s.ctl.enablesReadable := fun ch => by
      cases ch
      · exact readA
      · exact readB
    have noSync : ∀ q ∈ s.ctl.records, q.state ≠ .syncWait := fun q hq state =>
      ne_true_of_eq_false syncs (anyIn_eq_true.mpr ⟨q, hq, state⟩)
    have ended := readyWait_ended ⟨sound, readable, noSync, drains⟩
    refine ⟨_, gives_of_record (i := .readyWaitExpiry) timers (readyWaitEnds_running running)
      (endAllWaiting_sameRest ..).record, ?_, fun ch => ?_, fun ch => ?_, ended.claims, ended.tables, ended.engine,
      ended.media, (congrArg Sequencer.still ended.drive).trans rfl, ended.commitPending⟩
    · exact ended.records.trans (List.filter_congr fun r hr => stays_iff hr)
    · exact (ended.ready ch).trans (by rw [filter_disk]; rfl)
    · exact (ended.deferred ch).trans (by rw [filter_disk]; rfl)
  · intro ch f s fault n e timers state sound others kind rest ended
    have kind_eq : fault.deferredKind = kind := deferredKind_eq fault
    have plain : ∀ {i : Instr} {fn : Func} {job : Job} {accept : Controller → Controller} {range : Nat × Nat},
        i.effect s.ctl = s.ctl.order (.of fn ch f) accept → s.ctl.passes (.of fn ch f) = true →
        accept (s.ctl.frameTaken ch) = (s.ctl.frameTaken ch).acceptDisk (.of fn ch f) job →
        s.ctl.extentNumber (.of fn ch f) = some n → job.range = some range → job.func = fn →
        ended i fn s.ctl.buffers := by
      intro i fn job accept range effect passes accepts number covers func
      subst func
      exact ended_in_fault timers state sound others (b := s.ctl.buffers) effect passes
        (accepts.trans (acceptDisk_added (c := s.ctl.frameTaken ch) number)) rfl rfl
        (Option.isSome_iff_exists.mpr ⟨range, covers⟩) rfl
    refine ⟨fun start count ops found => ⟨fun passes => ?_, fun passes => ?_⟩, fun lsa ops found passes => ?_,
      fun cylinder head fill ops passes => ⟨fun logical found => ?_, fun spare => ?_⟩, ?_⟩
    · have operands : (Order.of .read ch f).operands = some (.sectors start count) := ops
      exact plain (i := .read ch f) (job := .read start count) (Eq.refl _) passes (by rw [acceptRead, operands])
        (extentNumber_of_found (orderExtent_of_found operands nofun rfl found)) rfl rfl
    · have operands : (Order.of .verify ch f).operands = some (.sectors start count) := ops
      exact plain (i := .verify ch f) (job := .verify start count) (Eq.refl _) passes (by rw [acceptVerify, operands])
        (extentNumber_of_found (orderExtent_of_found operands nofun rfl found)) rfl rfl
    · have operands : (Order.of .seek ch f).operands = some (.lsa lsa) := ops
      exact plain (i := .seek ch f) (job := .seek lsa) (Eq.refl _) passes (by rw [acceptSeek, operands])
        (extentNumber_of_found (orderExtent_of_found operands nofun rfl found)) rfl rfl
    · have operands : (Order.of .formatTrack ch f).operands = some (.track cylinder head fill) := ops
      exact plain (i := .formatTrack ch f) (job := .formatTrack cylinder head fill) (Eq.refl _) passes
        (by rw [acceptFormat, operands])
        (extentNumber_of_found (orderExtent_of_found operands nofun (track_range_logical fill logical) found))
        (track_range_logical fill logical) rfl
    · have operands : (Order.of .formatTrack ch f).operands = some (.track cylinder head fill) := ops
      have number : s.ctl.extentNumber (.of .formatTrack ch f) = none := by
        rw [extentNumber, orderExtent_of_range operands nofun, track_range_spare fill spare, Option.map_none]
      have added := addRecord_added sound ch (r := { s.ctl.recordFor ch f (.formatTrack cylinder head fill) .waiting with
        cls := Class.ofNat? f.cls.toNat }) (Eq.refl _) s.ctl.buffers
      have spared : ¬(Job.formatTrack cylinder head fill).range.isSome = true := by
        rw [show (Job.formatTrack cylinder head fill).range = none from track_range_spare fill spare]
        exact Bool.false_ne_true
      have accepts : (s.ctl.frameTaken ch).acceptFormat (.of .formatTrack ch f) =
          (s.ctl.frameTaken ch).acceptDisk (.of .formatTrack ch f) (.formatTrack cylinder head fill) := by
        rw [acceptFormat, operands]
      exact accepted_gives (i := .formatTrack ch f) (Eq.refl _) passes
        ((accepts.trans (acceptDisk_added (c := s.ctl.frameTaken ch) number)).trans
          ((added.endInFault state others).trans (if_neg spared)))
        ((addRecord_sameRest ..).timers (frameTaken_timers timers ch))
    · intro start count data ops found passes filled
      have operands : (Order.of .write ch f).operands = some (.writeData start count data) := ops
      have extent : s.ctl.orderExtent (.of .write ch f) = some (.found n e) :=
        orderExtent_of_found operands nofun rfl found
      have number := extentNumber_of_found extent
      have accepts : (s.ctl.frameTaken ch).acceptWriteOrder (.of .write ch f) =
          (s.ctl.frameTaken ch).acceptWrite (.of .write ch f) start count data := by
        rw [acceptWriteOrder, operands]
      have early : (s.ctl.frameTaken ch).answersEarly (.of .write ch f) = (e.writeBehind &&
          (s.ctl.channelRecord ch).writeBehindPermitted && (s.ctl.work.deferred.get ch).isNone) :=
        answersEarly_of_found (c := s.ctl.frameTaken ch) extent
      have fills : (s.ctl.frameTaken ch).fillBuffers (s.ctl.freeBuffers.take count) data =
          { s.ctl.frameTaken ch with buffers := filled.buffers } := by
        have same : ((s.ctl.frameTaken ch).fillBuffers (s.ctl.freeBuffers.take count) data).buffers = filled.buffers :=
          fillBuffers_buffers_congr data _ (Eq.refl s.ctl.buffers)
        rw [fillBuffers_eq, same]
      refine ⟨fun waits => ?_, fun behind permitted clear readable syncs drains => ?_⟩
      · have late : (s.ctl.frameTaken ch).answersEarly (.of .write ch f) = false := by
          rw [early]
          rcases waits with behind | permitted | deferred
          · simp [behind]
          · simp [permitted]
          · simp [Option.isSome_iff_ne_none.mpr deferred]
        have adds := acceptWrite_added_waiting (c := s.ctl.frameTaken ch) (start := start) (count := count) (data := data)
          number late
        have acceptsAdds := accepts.trans (adds.trans (congrArg (fun c : Controller => (c.addRecord
          ((s.ctl.frameTaken ch).writeRecord ch f start count n .waiting false)).endInFault) fills))
        exact ended_in_fault timers state sound others (i := .write ch f) (Eq.refl _) passes acceptsAdds rfl rfl rfl rfl
      · have yes : (s.ctl.frameTaken ch).answersEarly (.of .write ch f) = true := by
          rw [early, behind, permitted, clear]
          rfl
        have adds := acceptWrite_added_early (c := s.ctl.frameTaken ch) (start := start) (count := count) (data := data)
          number yes
        have added := (addRecord_added sound ch (r := (s.ctl.frameTaken ch).writeRecord ch f start count n .lingering true)
          (Eq.refl _) filled.buffers).placeAnswer { answerTo f .write .done with early := true }
        have fails := added.failedInFault state others rfl rfl rfl readable syncs fun m toWaiter there =>
          Option.some.inj there ▸ drains toWaiter
        have result := EndedBy.lingering (ans := (·.answer .driveFault)) (kind := fault.deferredKind) added.sound
          added.there rfl
        have gives := accepted_gives (i := .write ch f) (Eq.refl _) passes
          (accepts.trans (adds.trans ((congrArg (fun c : Controller => ((c.addRecord
            ((s.ctl.frameTaken ch).writeRecord ch f start count n .lingering true)).placeAnswer ch
              { answerTo f .write .done with early := true }).endInFault) fills).trans fails)))
          (timers_of_record (congrArg (·.active.drive) (result.tables.trans added.tables)) timers)
        refine ⟨_, gives, added.leftAs rfl rfl result, result.buffers, ?_, ?_, ?_⟩
        · exact (result.ready ch).trans (placedReady s.ctl ch _ _ _ _ rfl)
        · rw [takeOut_deferred, ← kind_eq]
          exact failureTaken_deferred added _ clear
        · rw [takeOut_notices]
          exact failureTaken_notices added _

end Sys2Proof.Machine
end


section
/-! SUPPORT. The frame in progress on a port: what answers, notices, leavings, dropped claims and fallback entries do
to it, which is to stop it or to leave it alone (R42, R57, R169). -/

namespace Sys2Proof.Machine

/-- From `p` to `q` the frame in progress stands as it was, with its stall timer, or it was stopped; with an empty
Delivery Queue there is nothing that could stop it. -/
structure Port.StopsAtMost (p q : Port) : Prop where
  frame : q.out = p.out ∧ q.stall = p.stall ∨ q.out = p.out.map (·.stop) ∧ q.stall = none
  undisturbed : p.delivery = [] → q.delivery = [] ∧ q.out = p.out ∧ q.stall = p.stall

/-- A stopped frame with the word in progress. -/
def Port.halted (w : Word) (p : Port) : Prop :=
  p.out = some { source := .stopped, words := [w] } ∧ p.stall = none

namespace Port.StopsAtMost

variable {p q r : Port}

theorem of_same (delivery : q.delivery = p.delivery) (out : q.out = p.out) (stall : q.stall = p.stall) :
    p.StopsAtMost q :=
  ⟨.inl ⟨out, stall⟩, fun h => ⟨delivery.trans h, out, stall⟩⟩

theorem rfl : p.StopsAtMost p := of_same (Eq.refl _) (Eq.refl _) (Eq.refl _)

theorem trans (h : p.StopsAtMost q) (k : q.StopsAtMost r) : p.StopsAtMost r where
  frame := by
    rcases k.frame with ⟨out, stall⟩ | ⟨out, stall⟩
    · rw [out, stall]
      exact h.frame
    · refine .inr ⟨?_, stall⟩
      rcases h.frame with ⟨before, -⟩ | ⟨before, -⟩
      · rw [out, before]
      · rw [out, before, Option.map_map]
        exact congrArg (Option.map · p.out) (funext OutFrame.stop_stop)
  undisturbed := fun empty => by
    obtain ⟨delivery, out, stall⟩ := h.undisturbed empty
    obtain ⟨delivery', out', stall'⟩ := k.undisturbed delivery
    exact ⟨delivery', out'.trans out, stall'.trans stall⟩

theorem dropDelivery (p : Port) (seq : Nat) : p.StopsAtMost (p.dropDelivery seq) where
  frame := by
    unfold Port.dropDelivery
    dsimp only
    split
    · exact .inr ⟨Eq.refl _, Eq.refl _⟩
    · exact .inl ⟨Eq.refl _, Eq.refl _⟩
  undisturbed := fun empty => by
    unfold Port.dropDelivery
    rw [empty]
    exact ⟨Eq.refl _, Eq.refl _, Eq.refl _⟩

theorem leaveWith (p : Port) (seq : Nat) (ans : Option Answer) : p.StopsAtMost (p.leaveWith seq ans) :=
  trans (q := { p with ready := p.ready ++ ans.toList }) (of_same (Eq.refl _) (Eq.refl _) (Eq.refl _))
    (dropDelivery _ seq)

theorem takeNotice (p : Port) (enabled : Bool) (n : Notice) : p.StopsAtMost (p.takeNotice enabled n) := by
  unfold Port.takeNotice
  split
  · exact .rfl
  · split
    · exact .rfl
    · split <;> exact of_same (Eq.refl _) (Eq.refl _) (Eq.refl _)

/-- A frame that has stopped stays as it is. -/
theorem halted {w : Word} (k : p.StopsAtMost q) (h : p.halted w) : q.halted w := by
  obtain ⟨out, stall⟩ := h
  rcases k.frame with ⟨out', stall'⟩ | ⟨out', stall'⟩
  · exact ⟨out'.trans out, stall'.trans stall⟩
  · exact ⟨by rw [out', out]; exact Eq.refl _, stall'⟩

/-- The word in progress is that of the frame, whether or not it was stopped before. -/
theorem stopFrame_halted {f : OutFrame} {w : Word} {rest : List Word} (k : p.StopsAtMost q) (out : p.out = some f)
    (words : f.words = w :: rest) : q.stopFrame.halted w := by
  have stop : f.stop = { source := .stopped, words := [w] } := by rw [OutFrame.stop, words]; exact Eq.refl _
  refine ⟨?_, Eq.refl _⟩
  rcases k.frame with ⟨out', -⟩ | ⟨out', -⟩
  · rw [stopFrame_out, out', out, ← stop]
    exact Eq.refl _
  · rw [stopFrame_out, out', out, ← stop, Option.map_some, Option.map_some, OutFrame.stop_stop]

end Port.StopsAtMost

namespace Controller

/-- On both ports the frame stands or was stopped. -/
structure StopsAtMost (c d : Controller) : Prop where
  ports : ∀ ch, (c.port ch).StopsAtMost (d.port ch)

namespace StopsAtMost

variable {c d e : Controller}

theorem of_ports (h : d.ports = c.ports) : c.StopsAtMost d := ⟨fun ch => by
  rw [port, port, h]
  exact .rfl⟩

theorem rfl : c.StopsAtMost c := of_ports (Eq.refl _)

theorem trans (h : c.StopsAtMost d) (k : d.StopsAtMost e) : c.StopsAtMost e :=
  ⟨fun ch => (h.ports ch).trans (k.ports ch)⟩

theorem modPort (c : Controller) (ch : Channel) {f : Port → Port} (h : ∀ p : Port, p.StopsAtMost (f p)) :
    c.StopsAtMost (c.modPort ch f) := ⟨fun d => by
  by_cases own : d = ch
  · rw [own, modPort_port_self]
    exact h _
  · rw [port, port]
    exact (PerChannel.get_set_of_ne c.ports (f (c.port ch)) own).symm ▸ .rfl⟩

theorem foldl {α : Type} {f : Controller → α → Controller} (h : ∀ (c : Controller) (a : α), c.StopsAtMost (f c a)) :
    ∀ (l : List α) (c : Controller), c.StopsAtMost (l.foldl f c)
  | [], _ => rfl
  | a :: l, c => (h c a).trans (foldl h l (f c a))

end StopsAtMost

/-! Leavings. -/

theorem takeOut_stops (c : Controller) (seq : Nat) (ans : Option Answer) : c.StopsAtMost (c.takeOut seq ans) :=
  ⟨fun ch => by
    rcases takeOut_port c seq ans ch with same | left
    · rw [same]
      exact .rfl
    · rw [left]
      exact .leaveWith ..⟩

theorem answerWaiter_stops (c : Controller) (ch : Channel) (e : Nat) (code : AnswerCode) :
    c.StopsAtMost (c.answerWaiter ch e code) := by
  unfold answerWaiter
  split
  · exact .rfl
  · exact takeOut_stops ..

theorem endDrain_stops (c : Controller) (e : Nat) : c.StopsAtMost (c.endDrain e) := by
  unfold endDrain
  split
  · split
    · split
      · exact StopsAtMost.trans (d := c.setClaim e _) (.of_ports (Eq.refl _)) (answerWaiter_stops ..)
      · exact .of_ports rfl
    · exact .rfl
  · exact .rfl

theorem drainFalls_stops (c : Controller) (r : Record) : c.StopsAtMost (c.drainFalls r) := by
  unfold drainFalls
  split
  · exact .rfl
  · split
    · split
      · exact endDrain_stops ..
      · exact .rfl
    · exact .rfl

theorem completeSyncs_stops (c : Controller) (ch : Channel) : c.StopsAtMost (c.completeSyncs ch) :=
  StopsAtMost.foldl (fun _ _ => takeOut_stops ..) _ _

/-- What follows the taking out of a record stops at most a frame. -/
theorem leave_after_stops {c : Controller} {seq : Nat} {r : Record} (h : c.findRecord seq = some r)
    (ans : Option Answer) : (c.takeOut seq ans).StopsAtMost (c.leave seq ans) := by
  rw [leave_of_found h]
  split
  · exact (drainFalls_stops ..).trans (completeSyncs_stops ..)
  · exact drainFalls_stops ..

theorem leave_stops (c : Controller) (seq : Nat) (ans : Option Answer) : c.StopsAtMost (c.leave seq ans) := by
  cases h : c.findRecord seq with
  | none => rw [leave_of_none h]; exact .rfl
  | some r => exact (takeOut_stops ..).trans (leave_after_stops h ans)

/-! Notices and fallback entries. -/

theorem offerUntested_stops (c : Controller) (ch : Channel) (n : Notice) : c.StopsAtMost (c.offerUntested ch n) :=
  .modPort c ch fun p => .takeNotice p _ n

theorem dropClaim_stops (c : Controller) (e : Nat) : c.StopsAtMost (c.dropClaim offerUntested e) := by
  cases h : c.claimAt e with
  | none => rw [dropClaim_of_none h]; exact .rfl
  | some cl =>
    have told : c.StopsAtMost (c.holderTold e) := by
      unfold holderTold
      cases (c.claimAt e).bind (·.holder) with
      | none => exact .of_ports rfl
      | some h => exact StopsAtMost.trans (d := c.setClaim e none) (.of_ports (Eq.refl _)) (offerUntested_stops ..)
    rw [dropClaim_eq h]
    cases c.waiterRecord e with
    | none => exact told
    | some r => exact told.trans (takeOut_stops ..)

theorem fallbackEntry_stops (c : Controller) (reason : FallbackReason) : c.StopsAtMost (c.fallbackEntry reason) := by
  have dropped : c.StopsAtMost ((c.formsTaken reason).dropEach (droppedBy reason)) :=
    StopsAtMost.trans (d := c.formsTaken reason) (.of_ports (Eq.refl _)) (StopsAtMost.foldl dropClaim_stops _ _)
  refine ⟨fun ch => ?_⟩
  rw [fallbackEntry_port]
  exact (dropped.ports ch).trans (.takeNotice ..)

theorem testWord_stops (c : Controller) (w : TWord) : c.StopsAtMost (c.testWord w) := by
  unfold testWord
  split
  · exact .rfl
  · exact fallbackEntry_stops ..

theorem offer_stops (c : Controller) (ch : Channel) (n : Notice) : c.StopsAtMost (c.offer ch n) :=
  (testWord_stops ..).trans (offerUntested_stops ..)

theorem offerBoth_stops (c : Controller) (n : Notice) : c.StopsAtMost (c.offerBoth n) :=
  (offer_stops ..).trans (offer_stops ..)

theorem startWindow_stops (c : Controller) : c.StopsAtMost c.startWindow :=
  (testWord_stops c c.tables.active.monitor.w0).trans (.of_ports rfl)

/-! The resets. -/

theorem waiterLeaves_stops (c : Controller) (r : Record) : c.StopsAtMost (c.waiterLeaves r) := by
  unfold waiterLeaves
  split
  · split
    · split
      · exact .of_ports rfl
      · exact .rfl
    · exact .rfl
  · exact .rfl

theorem removeRecords_stops (c : Controller) (ch : Channel) : c.StopsAtMost (c.removeRecords ch) :=
  (StopsAtMost.foldl (fun _ r => (leave_stops ..).trans (waiterLeaves_stops _ r)) _ c).trans
    (StopsAtMost.foldl (fun _ _ => leave_stops ..) _ _)

/-- The reset of a channel leaves of its frame the word in progress (R169, R173). -/
theorem resetChannel_halted {c : Controller} {ch : Channel} {f : OutFrame} {w : Word} {rest : List Word}
    (out : (c.port ch).out = some f) (words : f.words = w :: rest) (level : Nat) :
    ((c.resetChannel ch level).port ch).halted w := by
  have before : c.StopsAtMost (((c.removeRecords ch).silence ch).setDeferred ch none) :=
    (removeRecords_stops c ch).trans (.of_ports rfl)
  have emptied : ((((c.removeRecords ch).silence ch).setDeferred ch none).port ch).clear.halted w :=
    (before.ports ch).stopFrame_halted out words
  refine ((offerBoth_stops _ _).ports ch).halted ?_
  rw [modPort_port_self]
  exact emptied

end Controller

end Sys2Proof.Machine
end


section
/-! The outbound words and the stall limit (O29): what a step's end makes of a port, and changes that differ in the
frames in progress alone. -/

namespace Sys2Proof.Machine

namespace Controller

/-! The port at the end of a step. -/

/-- The end of a step pumps each port, and does nothing else to it. -/
theorem settle_port (before : Controller) {after : Controller} (good : after.timersReadable = true) (ch : Channel) :
    (before.settle after).port ch = after.pumped (after.port ch) := by
  obtain ⟨readyWait, idle, settled, -, -⟩ := settle_eq before after good
  have kept : after.startClearing.ports = after.ports ∧ after.startClearing.records = after.records ∧
      after.startClearing.buffers = after.buffers := by
    unfold startClearing
    split <;> exact ⟨rfl, rfl, rfl⟩
  obtain ⟨ports, records, buffers⟩ := kept
  have stands : (after.startClearing.modDrive fun d => { d with readyWait := readyWait, idle := idle }).port ch =
      after.port ch := congrArg (PerChannel.get · ch) ports
  have frame : ∀ p : Port, (after.startClearing.modDrive fun d =>
      { d with readyWait := readyWait, idle := idle }).nextFrame p = after.nextFrame p :=
    fun p => nextFrame_congr records buffers rfl rfl rfl
  rw [settled, pump_port, stands, pumped, frame]
  exact Eq.refl _

theorem pumped_busy (c : Controller) {p : Port} {f : OutFrame} (out : p.out = some f) : c.pumped p = p :=
  if_pos (by simp [out])

theorem pumped_out_of_idle (c : Controller) {p : Port} (idle : p.out = none) :
    (c.pumped p).out = if p.link = .detached then none else c.nextFrame p := by
  unfold pumped
  by_cases down : p.link = .detached
  · rw [if_pos down, if_pos (by simp [down])]
    exact idle
  · rw [if_neg down, if_neg (by simp [down, idle])]

/-! What the frames in progress do not matter to. -/

/-- The blocks differ in the frames in progress and the stall timers alone. -/
def SameButFrames (c d : Controller) : Prop :=
  ∃ ports : PerChannel Port, (∀ ch, (ports.get ch).still = (c.port ch).still) ∧ d = { c with ports := ports }

namespace SameButFrames

variable {c d : Controller}

theorem rfl : c.SameButFrames c := ⟨c.ports, fun _ => Eq.refl _, Eq.refl _⟩

/-- One port has another frame. -/
theorem modPort (c : Controller) (ch : Channel) {f : Port → Port} (h : ∀ p : Port, (f p).still = p.still) :
    c.SameButFrames (c.modPort ch f) := by
  refine ⟨_, fun e => ?_, Eq.refl _⟩
  by_cases own : e = ch
  · rw [own, PerChannel.get_set_self]
    exact h _
  · rw [PerChannel.get_set_of_ne _ _ own]
    exact Eq.refl _

theorem takeOut (h : c.SameButFrames d) (seq : Nat) (ans : Option Answer) :
    (c.takeOut seq ans).SameButFrames (d.takeOut seq ans) := by
  obtain ⟨ports, still, rfl⟩ := h
  cases found : c.findRecord seq with
  | none =>
    rw [takeOut_of_none found, takeOut_of_none (c := { c with ports := ports }) found]
    exact ⟨ports, still, Eq.refl _⟩
  | some r =>
    rw [takeOut_of_found (c := { c with ports := ports }) found]
    let left := ports.set r.channel ((ports.get r.channel).leaveWith seq ans)
    refine ⟨left, fun ch => ?_,
      (congrArg (fun x : Controller => ({ x with ports := left } : Controller)) (takeOut_of_found found ans)).symm⟩
    by_cases own : ch = r.channel
    · rw [own, PerChannel.get_set_self, takeOut_port_self found]
      simp only [Port.leaveWith, Port.dropDelivery_still]
      have same := still r.channel
      simp only [Port.still, Port.mk.injEq] at same
      obtain ⟨link, inbound, escalation, errors, notices, overflow, delivery, ready, -⟩ := same
      simp only [Port.still, Port.mk.injEq]
      exact ⟨link, inbound, escalation, errors, notices, overflow, congrArg _ delivery, congrArg (· ++ _) ready,
        trivial, trivial⟩
    · rw [PerChannel.get_set_of_ne _ _ own, takeOut_port_of_ne found ans own]
      exact still ch

theorem answerWaiter (h : c.SameButFrames d) (ch : Channel) (e : Nat) (code : AnswerCode) :
    (c.answerWaiter ch e code).SameButFrames (d.answerWaiter ch e code) := by
  have same : d.claimWaiter ch e = c.claimWaiter ch e := by
    obtain ⟨ports, -, rfl⟩ := h
    exact Eq.refl _
  cases found : c.claimWaiter ch e with
  | none => rwa [answerWaiter_of_none found, answerWaiter_of_none (same.trans found)]
  | some r =>
    rw [answerWaiter_of_some found, answerWaiter_of_some (same.trans found)]
    exact h.takeOut _ _

theorem setClaim (h : c.SameButFrames d) (e : Nat) (v : Option Claim) :
    (c.setClaim e v).SameButFrames (d.setClaim e v) := by
  obtain ⟨ports, still, rfl⟩ := h
  exact ⟨ports, still, Eq.refl _⟩

theorem setRecords (h : c.SameButFrames d) (rs : List Record) : (c.setRecords rs).SameButFrames (d.setRecords rs) := by
  obtain ⟨ports, still, rfl⟩ := h
  exact ⟨ports, still, Eq.refl _⟩

theorem claimAt (h : c.SameButFrames d) (e : Nat) : d.claimAt e = c.claimAt e := by
  obtain ⟨ports, -, rfl⟩ := h
  exact Eq.refl _

theorem records (h : c.SameButFrames d) : d.records = c.records := by
  obtain ⟨ports, -, rfl⟩ := h
  exact Eq.refl _

theorem findRecord (h : c.SameButFrames d) : d.findRecord = c.findRecord := by
  obtain ⟨ports, -, rfl⟩ := h
  exact Eq.refl _

theorem endDrain (h : c.SameButFrames d) (e : Nat) : (c.endDrain e).SameButFrames (d.endDrain e) := by
  cases claimed : c.claimAt e with
  | none =>
    rw [Controller.endDrain, Controller.endDrain, h.claimAt, claimed]
    exact h
  | some cl =>
    rw [Controller.endDrain, Controller.endDrain, h.claimAt, claimed]
    cases cl with
    | free | held | wanted => exact h
    | handingOver holder toWaiter =>
      have counts : d.drainCount holder e = c.drainCount holder e := by rw [drainCount, drainCount, h.records]
      dsimp only
      rw [counts]
      split
      · split
        · exact (h.setClaim _ _).answerWaiter ..
        · exact h.setClaim ..
      · exact h

theorem drainFalls (h : c.SameButFrames d) (r : Record) : (c.drainFalls r).SameButFrames (d.drainFalls r) := by
  cases extent : r.extent with
  | none =>
    rw [Controller.drainFalls, Controller.drainFalls, extent]
    exact h
  | some e =>
    rw [Controller.drainFalls, Controller.drainFalls, extent]
    dsimp only
    rw [h.claimAt]
    split
    · split
      · exact h.endDrain e
      · exact h
    · exact h

theorem foldl {f g : Controller → Record → Controller}
    (step : ∀ (r : Record) {c d : Controller}, c.SameButFrames d → (f c r).SameButFrames (g d r)) :
    ∀ (l : List Record) {c d : Controller}, c.SameButFrames d → (l.foldl f c).SameButFrames (l.foldl g d)
  | [], _, _, h => h
  | r :: l, _, _, h => foldl step l (step r h)

theorem completeSyncs (h : c.SameButFrames d) (ch : Channel) :
    (c.completeSyncs ch).SameButFrames (d.completeSyncs ch) := by
  have chosen : d.records.filter (d.syncComplete ch) = c.records.filter (c.syncComplete ch) := by
    obtain ⟨ports, -, rfl⟩ := h
    exact Eq.refl _
  rw [Controller.completeSyncs, Controller.completeSyncs, chosen]
  refine foldl (fun r c d k => ?_) _ h
  have answer : d.syncAnswer ch r.tag = c.syncAnswer ch r.tag := by
    obtain ⟨ports, -, rfl⟩ := k
    exact Eq.refl _
  rw [answer]
  exact k.takeOut ..

/-- The leaving of a record does not read the frames in progress. -/
theorem leave (h : c.SameButFrames d) (seq : Nat) (ans : Option Answer) :
    (c.leave seq ans).SameButFrames (d.leave seq ans) := by
  have same : d.findRecord seq = c.findRecord seq := congrFun h.findRecord seq
  cases found : c.findRecord seq with
  | none => rwa [leave_of_none found, leave_of_none (same.trans found)]
  | some r =>
    rw [leave_of_found found, leave_of_found (same.trans found)]
    split
    · exact ((h.takeOut ..).drainFalls r).completeSyncs _
    · exact (h.takeOut ..).drainFalls r

end SameButFrames

end Controller

/-- A command whose change differs from `c` in the frames in progress gives `c` up to the end of the step. -/
theorem gives_of_sameButFrames {i : Instr} {s : State} {c d : Controller} (e : i.effect s.ctl = d)
    (same : c.SameButFrames d) (timers : c.timersReadable = true) : Gives i s c := by
  obtain ⟨ports, still, rfl⟩ := same
  have timers' : ({ c with ports := ports } : Controller).timersReadable = true := timers
  obtain ⟨t, next, pending, upTo⟩ := gives_of_effect e timers'
  exact ⟨t, next, pending, upTo.portA.trans (still .a), upTo.portB.trans (still .b), upTo.work, upTo.buffers,
    upTo.claims, upTo.tables, upTo.engine, upTo.drive, upTo.media, upTo.level3, upTo.sent⟩

/-- A command answers with the port that its change leaves, pumped. -/
theorem answers_of_port {i : Instr} {s : State} {c : Controller} {p : Controller → Prop} (e : i.effect s.ctl = c)
    (timers : c.timersReadable = true) (ch : Channel)
    (h : ∀ d : Controller, d.port ch = c.pumped (c.port ch) → p d) : Answers i s p := by
  subst e
  exact answers_of_run (exec_eq_run i s) (h _ (Controller.settle_port s.ctl timers ch))

end Sys2Proof.Machine
end


section
/-! The outbound words and the stall limit (O29): the commands. -/

namespace Sys2Proof.Machine

namespace Controller

variable {c : Controller} {ch : Channel}

/-! The taking of a word (R169). -/

theorem takeWord_idle (out : (c.port ch).out = none) : c.takeWord ch = c := by
  rw [takeWord]
  rw [out]

theorem takeWord_within {source : FrameSource} {w next : Word} {rest : List Word}
    (out : (c.port ch).out = some { source := source, words := w :: next :: rest }) :
    c.takeWord ch = c.modPort ch fun p => { p with
      out := some { source := source, words := next :: rest }
      stall := if ({ source := source, words := w :: next :: rest } : OutFrame).ofDelivery then some Config.stallMs
        else none } := by
  rw [takeWord]
  rw [out]
  exact Eq.refl _

theorem takeWord_last {source : FrameSource} {w : Word}
    (out : (c.port ch).out = some { source := source, words := [w] }) : c.takeWord ch = c.frameDone ch source := by
  rw [takeWord]
  rw [out]

theorem modPort_modPort (c : Controller) (ch : Channel) (f g : Port → Port) :
    (c.modPort ch f).modPort ch g = c.modPort ch fun p => g (f p) := by cases ch <;> rfl

/-- The end of a frame and a change of the port that does not read the frame. -/
theorem frameEnds_modPort (c : Controller) (ch : Channel) (g : Port → Port)
    (h : ∀ p : Port, (g p.frameEnds).still = (g p).still) :
    (c.modPort ch g).SameButFrames ((c.modPort ch (·.frameEnds)).modPort ch g) := by
  refine ⟨_, fun e => ?_, by rw [modPort_modPort]; rfl⟩
  by_cases own : e = ch
  · rw [own, PerChannel.get_set_self, modPort_port_self]
    exact h _
  · rw [PerChannel.get_set_of_ne _ _ own]
    exact congrArg Port.still (PerChannel.get_set_of_ne _ _ own).symm

/-- The end of a frame leaves the head of the Delivery Queue. -/
theorem frameEnds_head {r : Record} (head : (c.port ch).delivery.head?.bind c.findRecord = some r) :
    ((c.modPort ch (·.frameEnds)).port ch).delivery.head?.bind (c.modPort ch (·.frameEnds)).findRecord = some r := by
  rw [modPort_port_self]
  exact head

theorem frameEnds_same (c : Controller) (ch : Channel) : c.SameButFrames (c.modPort ch (·.frameEnds)) :=
  .modPort c ch fun _ => Eq.refl _

/-- A data frame taken whole is one sector of the delivery's record. -/
theorem dataFrameTaken_eq {r : Record} (head : (c.port ch).delivery.head?.bind c.findRecord = some r)
    (sound : c.sequenceSound) : c.dataFrameTaken ch = c.setRecords (c.records.map fun q =>
      if q = r then { q with buffers := q.buffers.drop 1, sent := q.sent + 1 } else q) := by
  obtain ⟨seq, first, found⟩ := Option.bind_eq_some_iff.mp head
  have there := mem_of_findRecord found
  rw [dataFrameTaken, first]
  refine congrArg c.setRecords (List.map_congr_left fun q hq => ?_)
  have iff : q.seq = seq ↔ q = r :=
    ⟨fun e => sound.eq_of_seq hq there (e.trans (seq_of_findRecord found).symm), fun e => e ▸ seq_of_findRecord found⟩
  simp [iff]

theorem deliveryTaken_eq {r : Record} (head : (c.port ch).delivery.head?.bind c.findRecord = some r) :
    c.deliveryTaken ch = c.leave r.seq none := by
  obtain ⟨seq, first, found⟩ := Option.bind_eq_some_iff.mp head
  rw [deliveryTaken, first, seq_of_findRecord found]

/-! The stall limit (R170). -/

theorem stallEnds_idle (stall : (c.port ch).stall = none) : c.stallEnds ch = c := if_neg (by simp [stall])

theorem stallEnds_running {r : Record} (stall : (c.port ch).stall ≠ none)
    (head : (c.port ch).delivery.head?.bind c.findRecord = some r) :
    c.stallEnds ch = c.leave r.seq (some r.stallAnswer) := by
  rw [stallEnds]
  rw [if_pos (Option.isSome_iff_ne_none.mpr stall), head]

/-- A record that leaves the head of its Delivery Queue stops its frame after the word in progress. -/
theorem leave_halted {r : Record} {f : OutFrame} {w : Word} {rest : List Word}
    (head : (c.port ch).delivery.head?.bind c.findRecord = some r) (own : r.channel = ch)
    (out : (c.port ch).out = some f) (words : f.words = w :: rest) (delivery : f.ofDelivery = true)
    (ans : Option Answer) : ((c.leave r.seq ans).port ch).halted w := by
  obtain ⟨seq, first, found⟩ := Option.bind_eq_some_iff.mp head
  obtain rfl := seq_of_findRecord found
  refine ((leave_after_stops found ans).ports ch).halted ?_
  rw [← own, takeOut_port_self found, own]
  have stops : (c.port ch).leaveWith r.seq ans =
      ({ c.port ch with ready := (c.port ch).ready ++ ans.toList,
                        delivery := (c.port ch).delivery.filter (· != r.seq) } : Port).stopFrame :=
    if_pos (by simp [Port.delivering, first, out, delivery])
  rw [stops]
  exact Port.StopsAtMost.rfl.stopFrame_halted out words

end Controller

/-- The answer of an abandoned delivery, its record's prepared answer given (R170). -/
theorem Record.stallAnswer_of_prepared {r : Record} {a : Answer} (prepared : r.prepared = some a) :
    (r.sent < r.done → r.stallAnswer =
      { a with code := .short, kind := some .stalled, lsa := some (r.job.start + r.sent), done := r.sent }) ∧
    (r.done ≤ r.sent → r.stallAnswer = a) := by
  rw [stallAnswer, prepared]
  exact ⟨fun short => if_pos short, fun whole => if_neg (Nat.not_lt.mpr whole)⟩

namespace Controller

variable {c : Controller} {ch : Channel}

/-! The resets as frames and as the fall of a link (R172). -/

theorem resetFrame_begun (up : (c.port ch).link ≠ .detached) (idle : c.level3 = none)
    (take : Controller → Controller) : c.resetFrame ch take = take (c.frameTaken ch) := by
  rw [resetFrame, if_neg (by simpa using up), if_neg (by simp [idle])]

theorem linkFalls_up (up : (c.port ch).link ≠ .detached) : c.linkFalls ch =
    (c.resetChannel ch 1).modPort ch fun p => { p with link := .detached, escalation := none, inbound := [] } :=
  if_neg (by simpa using up)

theorem frameLevelOne_recovering (link : (c.port ch).link = .recovering) : c.frameLevelOne ch = c.levelTwo ch :=
  if_pos (by simpa using link)

theorem frameLevelOne_attached (link : (c.port ch).link ≠ .recovering) : c.frameLevelOne ch = c.levelOne ch :=
  if_neg (by simpa using link)

theorem waiterLeaves_sameRest (c : Controller) (r : Record) : c.SameRest (c.waiterLeaves r) := by
  unfold waiterLeaves
  split
  · split
    · split
      · exact setClaim_sameRest ..
      · exact .rfl
    · exact .rfl
  · exact .rfl

theorem resetRecord_sameRest (c : Controller) (ans : Option (Record → Answer)) (r : Record) :
    c.SameRest (c.resetRecord ans r) := (leave_sameRest ..).trans (waiterLeaves_sameRest ..)

theorem removeRecords_sameRest (c : Controller) (ch : Channel) : c.SameRest (c.removeRecords ch) :=
  (SameRest.foldl (fun _ r => resetRecord_sameRest _ none r) _ c).trans
    (SameRest.foldl (fun _ _ => leave_sameRest ..) _ _)

theorem resetChannel_sameRest (c : Controller) (ch : Channel) (level : Nat) : c.SameRest (c.resetChannel ch level) :=
  (removeRecords_sameRest ..).trans ((setRecords_sameRest ..).trans ((setDeferred_sameRest ..).trans
    ((modPort_sameRest ..).trans (offerBoth_sameRest ..))))

theorem stopAndMark_eq (c : Controller) (ch : Channel) : c.stopAndMark ch = c.setEngine { c.engine with
    recalPending := true
    work := c.engine.work.map fun k => { k with stop := some (k.stop.getD (.level2 ch)) }.keepMark } := by
  rw [stopAndMark, givePendingStop_eq]
  cases c.engine.work <;> rfl

theorem levelOne_record (c : Controller) (ch : Channel) :
    (c.levelOne ch).tables.active.drive = c.tables.active.drive := (resetChannel_sameRest c ch 1).record

theorem levelTwo_record (c : Controller) (ch : Channel) :
    (c.levelTwo ch).tables.active.drive = c.tables.active.drive :=
  (resetChannel_sameRest (c.stopAndMark ch) ch 2).record.trans (by rw [stopAndMark_eq]; rfl)

/-- A change of a port's link and timers leaves its frame. -/
theorem modPort_halted {w : Word} (h : (c.port ch).halted w) {f : Port → Port}
    (same : ∀ p : Port, (f p).out = p.out ∧ (f p).stall = p.stall) : ((c.modPort ch f).port ch).halted w := by
  obtain ⟨out, stall⟩ := same (c.port ch)
  rw [modPort_port_self]
  exact ⟨out.trans h.1, stall.trans h.2⟩

section

variable {f : OutFrame} {w : Word} {rest : List Word} (out : (c.port ch).out = some f) (words : f.words = w :: rest)

include out words

theorem levelOne_halted : ((c.levelOne ch).port ch).halted w :=
  modPort_halted (resetChannel_halted out words 1) fun _ => ⟨Eq.refl _, Eq.refl _⟩

theorem levelTwo_halted : ((c.levelTwo ch).port ch).halted w := by
  refine modPort_halted (resetChannel_halted (f := f) ?_ words 2) fun _ => ⟨Eq.refl _, Eq.refl _⟩
  rw [stopAndMark_eq]
  exact out

theorem frameLevelOne_halted : ((c.frameLevelOne ch).port ch).halted w := by
  by_cases link : (c.port ch).link = .recovering
  · rw [frameLevelOne_recovering link]
    exact levelTwo_halted out words
  · rw [frameLevelOne_attached link]
    exact levelOne_halted out words

end

theorem frameLevelOne_record (c : Controller) (ch : Channel) :
    (c.frameLevelOne ch).tables.active.drive = c.tables.active.drive := by
  unfold frameLevelOne
  split
  · exact levelTwo_record ..
  · exact levelOne_record ..

theorem frameTaken_out (c : Controller) (ch d : Channel) : ((c.frameTaken ch).port d).out = (c.port d).out := by
  rw [frameTaken_port]

/-! The level-3 values (R176). -/

/-- The ports of a block at the level-3 values. -/
def portsCleared (c : Controller) : Controller := (c.modPort .a (·.levelThree)).modPort .b (·.levelThree)

theorem portsCleared_port (c : Controller) (ch : Channel) : c.portsCleared.port ch = (c.port ch).levelThree := by
  cases ch <;> rfl

theorem levelThree_delivery (p : Port) : p.levelThree.delivery = [] := by
  unfold Port.levelThree
  dsimp only
  split <;> rfl

/-- After the ports have taken their values nothing stops a frame. -/
theorem levelThreeValues_frame (c : Controller) (sender ch : Channel) :
    ((c.levelThreeValues sender).port ch).out = (c.port ch).levelThree.out ∧
      ((c.levelThreeValues sender).port ch).stall = (c.port ch).levelThree.stall := by
  have stops : c.portsCleared.StopsAtMost (c.levelThreeValues sender) :=
    StopsAtMost.trans (d := { c.portsCleared with work := .powerOn }) (.of_ports (Eq.refl _))
      ((fallbackEntry_stops ..).trans (StopsAtMost.trans (d := setMedia _ _) (.of_ports (Eq.refl _))
        ((startWindow_stops _).trans ((offerBoth_stops _ (.resetDone 3 sender)).trans (.of_ports (Eq.refl _))))))
  rw [← portsCleared_port]
  exact ((stops.ports ch).undisturbed (by rw [portsCleared_port, levelThree_delivery])).2

theorem levelThreeValues_record (c : Controller) (sender : Channel) :
    (c.levelThreeValues sender).tables.active.drive = c.tables.active.drive := by
  refine (offerBoth_record ..).trans ?_
  refine (testWord_sameRest _ _).record.trans ?_
  exact (fallbackEntry_sameRest ..).record

theorem flushEnds_done {sender : Channel} (resetting : c.level3 = some sender) (idle : c.anyIn .active = false)
    (flushed : c.anyIn .lingering = false) : c.flushEnds = c.levelThreeValues sender := by
  rw [flushEnds, resetting]
  exact if_pos ((flushDone_iff c).mpr ⟨idle, flushed⟩)

theorem levelThree_halted {p : Port} {f : OutFrame} {w : Word} {rest : List Word} (out : p.out = some f)
    (words : f.words = w :: rest) (other : f.source ≠ .answer) : p.levelThree.halted w := by
  have stops : p.levelThree = ({ p with notices := [], overflow := false, delivery := [] } : Port).stopFrame :=
    if_pos (by simp [out, other])
  rw [stops]
  exact Port.StopsAtMost.rfl.stopFrame_halted out words

theorem levelThree_answer {p : Port} {f : OutFrame} (out : p.out = some f) (answer : f.source = .answer) :
    p.levelThree.out = some f := by
  have stays : p.levelThree = { p with notices := [], overflow := false, delivery := [] } :=
    if_neg (by simp [out, answer])
  rw [stays]
  exact out

end Controller

/-- A command that leaves a stopped frame on a port answers so. -/
theorem answers_halted {i : Instr} {s : State} {c : Controller} {ch : Channel} {w : Word} (e : i.effect s.ctl = c)
    (timers : s.ctl.timersReadable = true) (record : c.tables.active.drive = s.ctl.tables.active.drive)
    (h : (c.port ch).halted w) : Answers i s fun d => (d.port ch).halted w :=
  answers_of_port e (Controller.timers_of_record record timers) ch fun d port => by
    rwa [port, Controller.pumped_busy c h.1]

open Controller in
/-- Settles O29: the last word of a frame by what carried it, the stall limit by the delivery's record, and the word
that a stopped frame leaves in progress. -/
theorem outboundWordsAndStallsMoveTheDelivery : Obligations.OutboundWordsAndStallsMoveTheDelivery := by
  refine ⟨fun ch s source w next rest timers => ⟨fun out => ⟨?_, ?_⟩, fun out => ?_, fun out => ?_, fun r head sound =>
    ⟨fun out => ?_, fun out => ?_⟩, fun out => ⟨?_, ?_⟩, fun out => ?_⟩, ?_, fun ch s timers =>
    ⟨fun r a stall head prepared => ⟨fun short => ?_, fun whole => ?_⟩, fun stall => ?_⟩⟩
  · exact gives_of_sameButFrames (i := .outboundWordTaken ch) (takeWord_within out) (.modPort _ _ fun _ => Eq.refl _)
      timers
  · refine answers_of_port (i := .outboundWordTaken ch) (takeWord_within out) timers ch fun d port => ?_
    rw [port, modPort_port_self, pumped_busy _ (Eq.refl _)]
    refine ⟨Eq.refl _, ?_⟩
    simp [OutFrame.ofDelivery, Config.stallMs]
  · exact gives_of_sameButFrames (i := .outboundWordTaken ch) (takeWord_last out)
      (frameEnds_modPort _ _ _ fun _ => Eq.refl _) timers
  · exact gives_of_sameButFrames (i := .outboundWordTaken ch) (takeWord_last out)
      (frameEnds_modPort _ _ _ fun _ => Eq.refl _) timers
  · have taken := (takeWord_last out).trans (dataFrameTaken_eq (frameEnds_head head) sound)
    exact gives_of_sameButFrames (i := .outboundWordTaken ch) taken ((frameEnds_same ..).setRecords _) timers
  · have taken := (takeWord_last out).trans (deliveryTaken_eq (frameEnds_head head))
    exact gives_of_sameButFrames (i := .outboundWordTaken ch) taken ((frameEnds_same ..).leave ..)
      (timers_of_record (leave_sameRest ..).record timers)
  · exact gives_of_sameButFrames (i := .outboundWordTaken ch) (takeWord_last out) (frameEnds_same ..) timers
  · refine answers_of_port (i := .outboundWordTaken ch) (takeWord_last out) timers ch fun d port => ?_
    rw [port, frameDone, modPort_port_self, pumped_out_of_idle _ (Eq.refl _)]
    exact congrArg (ite _ _) (nextFrame_congr (Eq.refl _) (Eq.refl _) (Eq.refl _) (Eq.refl _) (Eq.refl _))
  · exact gives_of_effect (i := .outboundWordTaken ch) (takeWord_idle out) timers
  · intro ch s f w rest timers out words stopped
    refine ⟨fun delivery stall ⟨r, head, own⟩ => ?_, fun up => ⟨fun idle => ⟨?_, ?_⟩, ?_⟩,
      fun sender resetting active lingering => ⟨fun other => ?_, fun answer => ?_⟩⟩
    · have carried : f.ofDelivery = true := by simpa [OutFrame.ofDelivery] using delivery
      exact answers_halted (i := .stallLimit ch) (stallEnds_running stall head) timers (leave_sameRest ..).record
        (leave_halted head own out words carried _)
    · exact answers_halted (i := .resetLevel1 ch) (resetFrame_begun up idle (·.frameLevelOne ch)) timers
        (frameLevelOne_record ..) (frameLevelOne_halted ((frameTaken_out _ ch ch).trans out) words)
    · exact answers_halted (i := .resetLevel2 ch) (resetFrame_begun up idle (·.levelTwo ch)) timers (levelTwo_record ..)
        (levelTwo_halted ((frameTaken_out _ ch ch).trans out) words)
    · exact answers_halted (i := .linkPresentFalls ch) (linkFalls_up up) timers (resetChannel_sameRest ..).record
        (modPort_halted (resetChannel_halted out words 1) fun _ => ⟨Eq.refl _, Eq.refl _⟩)
    · obtain ⟨frame, timer⟩ := levelThreeValues_frame s.ctl sender ch
      obtain ⟨out, stall⟩ := levelThree_halted out words other
      exact answers_halted (i := .level3Values) (flushEnds_done resetting active lingering) timers
        (levelThreeValues_record ..) ⟨frame.trans out, timer.trans stall⟩
    · obtain ⟨frame, -⟩ := levelThreeValues_frame s.ctl sender ch
      have stands := frame.trans (levelThree_answer out answer)
      refine answers_of_port (i := .level3Values) (flushEnds_done resetting active lingering)
        (timers_of_record (levelThreeValues_record ..) timers) ch fun d port => ?_
      rw [port, pumped_busy _ stands, stands]
  · have gives := gives_of_record (i := .stallLimit ch) timers (stallEnds_running stall head) (leave_sameRest ..).record
    rwa [(Record.stallAnswer_of_prepared prepared).1 short] at gives
  · have gives := gives_of_record (i := .stallLimit ch) timers (stallEnds_running stall head) (leave_sameRest ..).record
    rwa [(Record.stallAnswer_of_prepared prepared).2 whole] at gives
  · exact gives_of_effect (i := .stallLimit ch) (stallEnds_idle stall) timers

end Sys2Proof.Machine
end


section
/-! SUPPORT. The records that a reset takes out of the Work List, and the claims that waited for them (R73, R83, R84,
R173, R175). -/

namespace Sys2Proof.Machine

/-- The state that a waiter leaves behind keeps its holder and has no waiter. -/
theorem Claim.waiterGone_rest (cl : Claim) : cl.waiterGone.holder = cl.holder ∧ cl.waiterGone.waiter = none := by
  cases cl <;> exact ⟨rfl, rfl⟩

/-- The leaving of this record by a reset is the RELEASE of the claim's waiter. -/
def Record.releases (n : Nat) (cl : Claim) (r : Record) : Bool :=
  r.state == .claimWait && r.extent == some n && cl.waiter == some r.channel

theorem Record.releases_waiterGone (n : Nat) (cl : Claim) (r : Record) : r.releases n cl.waiterGone = false := by
  simp [releases, cl.waiterGone_rest.2]

namespace Controller

/-! The claims of the records that a reset takes out. -/

theorem waiterLeaves_of_state {r : Record} (h : r.state ≠ .claimWait) (c : Controller) : c.waiterLeaves r = c := by
  unfold waiterLeaves
  split
  · exact absurd ‹_› h
  · rfl

theorem waiterLeaves_of_extent {r : Record} (h : r.extent = none) (c : Controller) : c.waiterLeaves r = c := by
  unfold waiterLeaves
  split
  · rename_i extent
    exact absurd (h.symm.trans extent) (Option.some_ne_none _).symm
  · rfl

theorem waiterLeaves_of_unclaimed {r : Record} {e : Nat} (extent : r.extent = some e) {c : Controller}
    (free : c.claimAt e = none) : c.waiterLeaves r = c := by
  by_cases state : r.state = .claimWait
  · rw [waiterLeaves, state, extent]
    dsimp only
    rw [free]
  · exact waiterLeaves_of_state state c

/-- The leaving of a CLAIM-WAIT record by the claim of its extent. -/
theorem waiterLeaves_of_claimed {r : Record} {e : Nat} (state : r.state = .claimWait) (extent : r.extent = some e)
    {c : Controller} {cl : Claim} (claimed : c.claimAt e = some cl) :
    c.waiterLeaves r = if cl.waiter == some r.channel then c.setClaim e (some cl.waiterGone) else c := by
  rw [waiterLeaves, state, extent]
  dsimp only
  rw [claimed]

/-- A record that leaves by a reset releases what it waited for. -/
theorem waiterLeaves_claimAt (c : Controller) (r : Record) (n : Nat) : (c.waiterLeaves r).claimAt n =
    (c.claimAt n).map fun cl => if r.releases n cl then cl.waiterGone else cl := by
  have stands : (∀ cl, c.claimAt n = some cl → r.releases n cl = false) →
      c.claimAt n = (c.claimAt n).map fun cl => if r.releases n cl then cl.waiterGone else cl := fun h => by
    cases claimed : c.claimAt n with
    | none => rfl
    | some cl => rw [Option.map_some, h cl claimed]; rfl
  by_cases state : r.state = .claimWait
  · cases extent : r.extent with
    | none =>
      rw [waiterLeaves_of_extent extent]
      exact stands fun cl _ => by simp [Record.releases, extent]
    | some e =>
      by_cases own : e = n
      · subst own
        cases claimed : c.claimAt e with
        | none => rw [waiterLeaves_of_unclaimed extent claimed]; exact claimed
        | some cl =>
          rw [waiterLeaves_of_claimed state extent claimed]
          have low := lt_of_claimAt claimed
          have releases : r.releases e cl = (cl.waiter == some r.channel) := by simp [Record.releases, state, extent]
          rw [Option.map_some, releases]
          split
          · exact setClaim_claimAt_self c e _ low
          · exact claimed
      · have apart : (c.waiterLeaves r).claimAt n = c.claimAt n := by
          cases claimed : c.claimAt e with
          | none => rw [waiterLeaves_of_unclaimed extent claimed]
          | some cl =>
            rw [waiterLeaves_of_claimed state extent claimed]
            split
            · exact setClaim_claimAt_of_ne c _ own
            · rfl
        rw [apart]
        exact stands fun cl _ => by simp [Record.releases, extent, own]
  · rw [waiterLeaves_of_state state]
    exact stands fun cl _ => by simp [Record.releases, state]

/-- The claims after these records have left by a reset. -/
def released (c : Controller) (l : List Record) : Controller := l.foldl waiterLeaves c

theorem released_cons (c : Controller) (r : Record) (l : List Record) :
    c.released (r :: l) = (c.waiterLeaves r).released l := rfl

theorem released_claimAt : ∀ (l : List Record) (c : Controller) (n : Nat), (c.released l).claimAt n =
    (c.claimAt n).map fun cl => if l.any (·.releases n cl) then cl.waiterGone else cl
  | [], c, n => (congrFun Option.map_id_fun' (c.claimAt n)).symm
  | r :: l, c, n => by
    refine (released_claimAt l (c.waiterLeaves r) n).trans ?_
    rw [waiterLeaves_claimAt, Option.map_map]
    refine congrArg (Option.map · (c.claimAt n)) (funext fun cl => ?_)
    rw [Function.comp_apply, List.any_cons]
    cases own : r.releases n cl with
    | false => rfl
    | true =>
      have over' : l.any (·.releases n cl.waiterGone) = false := by simp [Record.releases_waiterGone]
      rw [if_pos rfl, over']
      rfl

/-- Only the claims are touched. -/
theorem waiterLeaves_rest (c : Controller) (r : Record) :
    c.waiterLeaves r = { c with claims := (c.waiterLeaves r).claims } := by
  unfold waiterLeaves
  split
  · split
    · split <;> rfl
    · rfl
  · rfl

theorem released_rest : ∀ (l : List Record) (c : Controller), c.released l = { c with claims := (c.released l).claims }
  | [], _ => rfl
  | r :: l, c => by
    have with_claims := congrArg (fun d : Controller =>
      ({ d with claims := (c.released (r :: l)).claims } : Controller)) (waiterLeaves_rest c r)
    exact (released_rest l (c.waiterLeaves r)).trans with_claims

theorem waiterLeaves_records (c : Controller) (r : Record) : (c.waiterLeaves r).records = c.records := by
  have same := congrArg Controller.records (waiterLeaves_rest c r)
  exact same

theorem waiterLeaves_sequenceSound {c : Controller} (s : c.sequenceSound) (r : Record) :
    (c.waiterLeaves r).sequenceSound := by
  have next := congrArg (·.work.nextSeq) (waiterLeaves_rest c r)
  exact s.sublist (waiterLeaves_records c r ▸ .refl _) next

theorem released_records (l : List Record) (c : Controller) : (c.released l).records = c.records := by
  have same := congrArg Controller.records (released_rest l c)
  exact same

theorem released_sequenceSound {c : Controller} (s : c.sequenceSound) (l : List Record) :
    (c.released l).sequenceSound :=
  by
  have next := congrArg (·.work.nextSeq) (released_rest l c)
  exact s.sublist (released_records l c ▸ .refl _) next

/-- Nothing but the claims is read. -/
theorem waiterLeaves_congr {c d : Controller} (h : d.claims = c.claims) (r : Record) :
    (d.waiterLeaves r).claims = (c.waiterLeaves r).claims := by
  by_cases state : r.state = .claimWait
  · cases extent : r.extent with
    | none => rw [waiterLeaves_of_extent extent, waiterLeaves_of_extent extent, h]
    | some e =>
      have same : d.claimAt e = c.claimAt e := by rw [claimAt, h, claimAt]
      cases claimed : c.claimAt e with
      | none => rwa [waiterLeaves_of_unclaimed extent claimed, waiterLeaves_of_unclaimed extent (same.trans claimed)]
      | some cl =>
        rw [waiterLeaves_of_claimed state extent claimed, waiterLeaves_of_claimed state extent (same.trans claimed)]
        split
        · exact congrArg (Vector.setIfInBounds · e _) h
        · exact h
  · rw [waiterLeaves_of_state state, waiterLeaves_of_state state, h]

theorem released_congr : ∀ (l : List Record) {c d : Controller}, d.claims = c.claims →
    (d.released l).claims = (c.released l).claims
  | [], _, _, h => h
  | r :: l, _, _, h => released_congr l (waiterLeaves_congr h r)

/-! The leavings. -/

theorem takeOut_withClaims (c : Controller) (claims : Vector (Option Claim) 16) (seq : Nat) (ans : Option Answer) :
    ({ c with claims := claims } : Controller).takeOut seq ans = { c.takeOut seq ans with claims := claims } := by
  cases found : c.findRecord seq with
  | none =>
    rw [takeOut_of_none found]
    exact takeOut_of_none (c := { c with claims := claims }) found ans
  | some r =>
    rw [takeOut_of_found found]
    exact takeOut_of_found (c := { c with claims := claims }) found ans

/-- What a record waited for does not bear on its being taken out. -/
theorem takeOut_released (c : Controller) (seq : Nat) (ans : Option Answer) (l : List Record) :
    (c.takeOut seq ans).released l = (c.released l).takeOut seq ans := by
  rw [released_rest l (c.takeOut seq ans), released_congr l (takeOut_claims c seq ans), released_rest l c]
  exact (takeOut_withClaims ..).symm

/-- A waiting record that is found leaves, and is a waiter's RELEASE where it was one. -/
theorem resetRecord_eq {c : Controller} {r : Record} (found : c.findRecord r.seq = some r) (waits : r.waits = true)
    (ans : Option (Record → Answer)) :
    c.resetRecord ans r = (c.waiterLeaves r).takeOut r.seq (ans.map fun f => f r) := by
  have idle : r.state ≠ .lingering := fun e => by simp [Record.waits, e] at waits
  rw [resetRecord, leave_eq_takeOut found idle (state_of_waits waits)]
  exact takeOut_released c r.seq _ [r]

/-- The waiting records of a list leave by a reset. -/
theorem foldl_resetRecord (ans : Option (Record → Answer)) (l : List Record) {c : Controller} (s : c.sequenceSound)
    (nodup : l.Nodup) (there : ∀ r ∈ l, r ∈ c.records) (waits : ∀ r ∈ l, r.waits = true) :
    l.foldl (fun c r => c.resetRecord ans r) c = (c.released l).takenOut l fun r => ans.map fun f => f r := by
  induction l generalizing c with
  | nil => exact (takenOut_nil c _).symm
  | cons r l ih =>
    have hr := there r (List.mem_cons_self ..)
    obtain ⟨out, nodup⟩ := List.nodup_cons.mp nodup
    have s' := waiterLeaves_sequenceSound s r
    have left := waiterLeaves_records c r
    have there' : ∀ q ∈ l, q ∈ ((c.waiterLeaves r).takeOut r.seq (ans.map fun f => f r)).records := fun q hq => by
      have ne : q.seq ≠ r.seq := fun e => out (s.eq_of_seq (there q (List.mem_cons_of_mem _ hq)) hr e ▸ hq)
      rw [takeOut_records, left]
      exact List.mem_filter.mpr ⟨there q (List.mem_cons_of_mem _ hq), by simpa using ne⟩
    have step := resetRecord_eq (s.findRecord hr) (waits r (List.mem_cons_self ..)) ans
    have waits' : ∀ q ∈ l, q.waits = true := fun q hq => waits q (List.mem_cons_of_mem _ hq)
    have sound := takeOut_sequenceSound s' r.seq (ans.map fun f => f r)
    have others := ih sound nodup there' waits'
    have last : r ∈ ((c.waiterLeaves r).released l).records := by rwa [released_records, left]
    have cons := takenOut_cons (released_sequenceSound s' l) last l fun q => ans.map fun f => f q
    rw [takeOut_released] at others
    rw [List.foldl_cons, step, others, released_cons]
    exact cons

end Controller

end Sys2Proof.Machine
end


section
/-! The reset of a channel (O27). -/

namespace Sys2Proof.Machine

namespace Controller

variable {c : Controller}

/-! The records that leave. -/

/-- The records of a channel that leave at its reset (R173). -/
def removedBy (ch : Channel) (r : Record) : Bool := r.channel == ch && r.state != .active && r.state != .lingering

/-- Its waiting records, which leave first. -/
def waitsAt (ch : Channel) (r : Record) : Bool := r.channel == ch && r.waits

/-- Its DELIVERING records, which leave then. -/
def deliversAt (ch : Channel) (r : Record) : Bool := r.channel == ch && r.state == .delivering

theorem removedBy_eq (ch : Channel) (r : Record) : removedBy ch r = (waitsAt ch r || deliversAt ch r) := by
  unfold removedBy waitsAt deliversAt Record.waits
  cases r.channel == ch <;> cases r.state <;> rfl

/-- The block once the waiting records of the channel have left. -/
def waitersRemoved (c : Controller) (ch : Channel) : Controller :=
  (c.released (c.records.filter (waitsAt ch))).takenOut (c.records.filter (waitsAt ch)) fun _ => none

theorem waitersRemoved_records (c : Controller) (ch : Channel) :
    (c.waitersRemoved ch).records = c.records.filter fun r => !waitsAt ch r := by
  have taken := takenOut_filter_records (c.released (c.records.filter (waitsAt ch))) (waitsAt ch) fun _ => none
  rw [released_records] at taken
  exact taken

theorem removeRecords_eq (s : c.sequenceSound) (ch : Channel) : c.removeRecords ch =
    (c.waitersRemoved ch).takenOut ((c.waitersRemoved ch).records.filter (deliversAt ch)) fun _ => none := by
  have waiters : (c.records.filter (waitsAt ch)).foldl (fun c r => c.resetRecord none r) c = c.waitersRemoved ch :=
    foldl_resetRecord none _ s (s.records_nodup.filter _) (fun r hr => (List.mem_filter.mp hr).1) fun r hr =>
      (Bool.and_eq_true_iff.mp (List.mem_filter.mp hr).2).2
  have sound : (c.waitersRemoved ch).sequenceSound := by
    rw [← waiters]
    exact s.sublist (resetWaiting_shared (w := .lists) c none (waitsAt ch) fun r h =>
      (Bool.and_eq_true_iff.mp h).2).fewer (by
        rw [waiters]
        exact congrArg (·.work.nextSeq) (released_rest ..))
  have split : c.removeRecords ch = ((c.waitersRemoved ch).records.filter (deliversAt ch)).foldl
      (fun c r => c.leave r.seq none) (c.waitersRemoved ch) := by
    rw [← waiters]
    exact Eq.refl _
  rw [split]
  refine foldl_takeOut_filter sound fun r delivers d found _ => ?_
  have state : r.state = .delivering := beq_iff_eq.mp (Bool.and_eq_true_iff.mp delivers).2
  exact leave_eq_takeOut found (by simp [state]) (by simp [state]) none

section

variable (s : c.sequenceSound) (ch : Channel)

include s

theorem removeRecords_records : (c.removeRecords ch).records = c.records.filter fun r => !removedBy ch r := by
  rw [removeRecords_eq s, takenOut_filter_records, waitersRemoved_records, List.filter_filter]
  refine List.filter_congr fun r _ => ?_
  rw [removedBy_eq, Bool.not_or, Bool.and_comm]

/-- Nothing but ports, records, claims and the COMMIT-pending mark is touched. -/
theorem removeRecords_rest : c.removeRecords ch = { c with
    ports := (c.removeRecords ch).ports
    claims := (c.removeRecords ch).claims
    work := { c.work with
      records := (c.removeRecords ch).records
      commitPending := (c.removeRecords ch).work.commitPending } } := by
  rw [removeRecords_eq s, waitersRemoved, released_rest]
  exact Eq.refl _

theorem removeRecords_port_other : (c.removeRecords ch).port ch.other = c.port ch.other := by
  rw [removeRecords_eq s]
  refine (takenOut_port_of_ne (fun r h => beq_iff_eq.mp (Bool.and_eq_true_iff.mp h).1) (channel_other_ne ch)).trans ?_
  have first := takenOut_port_of_ne (c := c.released (c.records.filter (waitsAt ch))) (p := waitsAt ch)
    (ans := fun _ => none) (fun r h => beq_iff_eq.mp (Bool.and_eq_true_iff.mp h).1) (channel_other_ne ch)
  rw [released_records] at first
  refine first.trans ?_
  rw [released_rest]
  exact Eq.refl _

theorem removeRecords_errorCount : ((c.removeRecords ch).port ch).errorCount = (c.port ch).errorCount := by
  rw [removeRecords_eq s, takenOut_port, Port.leaves_errorCount, waitersRemoved, takenOut_port,
    Port.leaves_errorCount, released_rest]
  exact Eq.refl _

theorem removeRecords_claimAt (n : Nat) : (c.removeRecords ch).claimAt n = (c.claimAt n).map fun cl =>
    if cl.waiter = some ch ∧ (c.claimWaiter ch n).isSome = true then cl.waiterGone else cl := by
  have claims : (c.removeRecords ch).claimAt n = (c.released (c.records.filter (waitsAt ch))).claimAt n := by
    rw [removeRecords_eq s]
    exact Eq.refl _
  rw [claims, released_claimAt]
  refine congrArg (Option.map · (c.claimAt n)) (funext fun cl => ?_)
  have iff : (c.records.filter (waitsAt ch)).any (·.releases n cl) = true ↔
      cl.waiter = some ch ∧ (c.claimWaiter ch n).isSome = true := by
    simp only [List.any_eq_true, List.mem_filter, waitsAt, Record.releases, Bool.and_eq_true, beq_iff_eq, claimWaiter,
      List.find?_isSome]
    constructor
    · rintro ⟨r, ⟨hr, rfl, -⟩, ⟨state, extent⟩, waiter⟩
      exact ⟨waiter, r, hr, ⟨state, rfl⟩, extent⟩
    · rintro ⟨waiter, r, hr, ⟨state, rfl⟩, extent⟩
      exact ⟨r, ⟨hr, rfl, by simp [Record.waits, state]⟩, ⟨state, extent⟩, waiter⟩
  rw [ite_congr (propext iff)] <;> exact fun _ => rfl

theorem removeRecords_commitPending : (c.removeRecords ch).work.commitPending = (c.work.commitPending &&
    !(c.records.any fun r => r.channel == ch && r.state == .commitWait)) := by
  have last : (c.removeRecords ch).work.commitPending = (c.waitersRemoved ch).work.commitPending := by
    rw [removeRecords_eq s]
    refine takenOut_commitPending fun r h => ?_
    rw [beq_iff_eq.mp (Bool.and_eq_true_iff.mp h).2]
    decide
  have first : (c.waitersRemoved ch).work.commitPending =
      (c.work.commitPending && (c.records.filter (waitsAt ch)).all (·.state != .commitWait)) := by
    rw [waitersRemoved, released_rest]
    exact Eq.refl _
  rw [last, first]
  refine congrArg (c.work.commitPending && ·) ?_
  rw [List.all_filter, List.not_any_eq_all_not]
  refine congrArg c.records.all (funext fun r => ?_)
  unfold waitsAt Record.waits
  cases r.channel == ch <;> cases r.state <;> rfl

end

/-! The channel as its reset leaves it (R173). -/

/-- The block before RESET-DONE is offered. -/
def channelCleared (c : Controller) (ch : Channel) : Controller :=
  (((c.removeRecords ch).silence ch).setDeferred ch none).modPort ch (·.clear)

theorem resetChannel_eq (c : Controller) (ch : Channel) (level : Nat) :
    c.resetChannel ch level = (c.channelCleared ch).offerBoth (.resetDone level ch) := rfl

section

variable (s : c.sequenceSound) (readable : c.enablesReadable) (ch : Channel) (level : Nat)

include s

theorem channelCleared_rest : c.channelCleared ch = { c with
    ports := (c.channelCleared ch).ports
    claims := (c.channelCleared ch).claims
    work := (c.channelCleared ch).work } := by
  have rest := removeRecords_rest s ch
  unfold channelCleared
  rw [rest]
  exact Eq.refl _

include readable

theorem channelCleared_readable : (c.channelCleared ch).enablesReadable := fun d => by
  rw [channelCleared_rest s]
  exact readable d

/-- RESET-DONE is the last that happens to a port. -/
theorem resetChannel_port (d : Channel) : (c.resetChannel ch level).port d =
    ((c.channelCleared ch).port d).takeNotice ((c.channelRecord d).enables 8) (.resetDone level ch) := by
  rw [resetChannel_eq, offerBoth_port (channelCleared_readable s readable ch), enabled]
  have record : (c.channelCleared ch).channelRecord d = c.channelRecord d := by
    rw [channelCleared_rest s]
    exact Eq.refl _
  rw [record]
  exact Eq.refl _

theorem resetChannel_port_self : (c.resetChannel ch level).port ch =
    (((c.removeRecords ch).port ch).clear).takeNotice ((c.channelRecord ch).enables 8) (.resetDone level ch) := by
  rw [resetChannel_port s readable, channelCleared, modPort_port_self]
  exact Eq.refl _

theorem resetChannel_port_other : (c.resetChannel ch level).port ch.other =
    (c.port ch.other).takeNotice ((c.channelRecord ch.other).enables 8) (.resetDone level ch) := by
  rw [resetChannel_port s readable, channelCleared, modPort_port_other, ← removeRecords_port_other s ch]
  exact Eq.refl _

/-- Beyond the ports, the reset is the clearing of the channel. -/
theorem resetChannel_rest : c.resetChannel ch level = { c with
    ports := (c.resetChannel ch level).ports
    claims := (c.removeRecords ch).claims
    work := (((c.removeRecords ch).silence ch).setDeferred ch none).work } := by
  have offered := offerBoth_rest (channelCleared_readable s readable ch) (.resetDone level ch)
  have rest := channelCleared_rest s ch
  rw [resetChannel_eq, offered, rest]
  exact Eq.refl _

end

end Controller

end Sys2Proof.Machine
end


section
/-! The reset of a channel (O27): the commands. -/

namespace Sys2Proof.Machine

namespace Controller

variable {c : Controller}

/-- A level-3 frame from a channel without management is taken as level 2 (R172). -/
theorem frameLevelThree_unmanaged {ch : Channel} (good : (c.channelRecord ch).w0.good = true)
    (management : (c.channelRecord ch).management = false) : c.frameLevelThree ch = c.levelTwo ch := by
  rw [frameLevelThree]
  rw [testWord_good c good]
  exact if_neg (ne_true_of_eq_false management)

theorem frameLevelThree_managed {ch : Channel} (good : (c.channelRecord ch).w0.good = true)
    (management : (c.channelRecord ch).management = true) : c.frameLevelThree ch = c.levelThree ch := by
  rw [frameLevelThree]
  rw [testWord_good c good]
  exact if_pos management

/-- The Engine with the stop and the mark of a level-2 reset (R174). -/
def markedEngine (c : Controller) (ch : Channel) : Engine := { c.engine with
  recalPending := true
  work := c.engine.work.map fun k => { k with stop := some (k.stop.getD (.level2 ch)) }.keepMark }

/-- What a reset makes of the link of its channel. -/
def linkAfter (falls : Bool) (p : Port) : Port :=
  if falls then { p with link := .detached, escalation := none, inbound := [] }
  else { p with link := .recovering, escalation := some Config.escalationMs }

/-- Only the link and its frame being received are touched. -/
theorem linkAfter_kept (falls : Bool) (p : Port) : (linkAfter falls p).ready = p.ready ∧
    (linkAfter falls p).delivery = p.delivery ∧ (linkAfter falls p).overflow = p.overflow ∧
    (linkAfter falls p).notices = p.notices ∧ (linkAfter falls p).errorCount = p.errorCount := by
  cases falls <;> exact ⟨rfl, rfl, rfl, rfl, rfl⟩

/-- RESET-DONE is the only notice of a cleared port. -/
theorem clear_takeNotice (p : Port) (enabled : Bool) (n : Notice) : p.clear.takeNotice enabled n =
    { p.clear with notices := if enabled then [n] else [] } := by
  cases enabled <;> rfl

theorem levelTwo_eq (c : Controller) (ch : Channel) : c.levelTwo ch =
    ((c.setEngine (c.markedEngine ch)).resetChannel ch 2).modPort ch (linkAfter false) := by
  rw [levelTwo, stopAndMark_eq]
  rfl

theorem linkFalls_eq {ch : Channel} (up : (c.port ch).link ≠ .detached) :
    c.linkFalls ch = (c.resetChannel ch 1).modPort ch (linkAfter true) := linkFalls_up up

/-- What a RESET frame or the fall of a link does, as one: the block from which the channel is reset differs in its two
ports and the Engine, and there in nothing that the reset is judged by (R172). -/
theorem reset_effect {s : State} {ch : Channel} {i : Instr} {level : Nat}
    (idle : s.ctl.level3 = none ∨ i = .linkPresentFalls ch)
    (cause : level = 1 ∧ (i = .resetLevel1 ch ∧ (s.ctl.port ch).link = .attached ∨
        i = .linkPresentFalls ch ∧ (s.ctl.port ch).link ≠ .detached) ∨
      level = 2 ∧ (i = .resetLevel1 ch ∧ (s.ctl.port ch).link = .recovering ∨
        i = .resetLevel2 ch ∧ (s.ctl.port ch).link ≠ .detached ∨
        i = .resetLevel3 ch ∧ (s.ctl.port ch).link ≠ .detached ∧ (s.ctl.channelRecord ch).w0.good = true ∧
          (s.ctl.channelRecord ch).management = false)) :
    ∃ (ports : PerChannel Port) (engine : Engine) (falls : Bool), i.effect s.ctl =
        (({ s.ctl with ports := ports, engine := engine } : Controller).resetChannel ch level).modPort ch
          (linkAfter falls) ∧
      ports.get ch.other = s.ctl.port ch.other ∧ (ports.get ch).errorCount = (s.ctl.port ch).errorCount ∧
      (falls = true ↔ i = .linkPresentFalls ch) ∧
      engine = if level = 2 then s.ctl.markedEngine ch else s.ctl.engine := by
  have other : (s.ctl.frameTaken ch).port ch.other = s.ctl.port ch.other := modPort_port_other ..
  have errors : ((s.ctl.frameTaken ch).port ch).errorCount = (s.ctl.port ch).errorCount := by rw [frameTaken_port]
  have link := frameTaken_port_link s.ctl ch ch
  rcases cause with ⟨rfl, ⟨rfl, attached⟩ | ⟨rfl, up⟩⟩ | ⟨rfl, ⟨rfl, recovering⟩ | ⟨rfl, up⟩ | ⟨rfl, up, good, managed⟩⟩
  · have begun := resetFrame_begun (ch := ch) (by simp [attached]) (idle.resolve_right (by simp)) (·.frameLevelOne ch)
    exact ⟨_, _, false, begun.trans (frameLevelOne_attached (by simp [link, attached])), other, errors, by simp,
      Eq.refl _⟩
  · exact ⟨s.ctl.ports, s.ctl.engine, true, linkFalls_eq up, Eq.refl _, Eq.refl _, by simp, Eq.refl _⟩
  · have begun := resetFrame_begun (ch := ch) (by simp [recovering]) (idle.resolve_right (by simp)) (·.frameLevelOne ch)
    exact ⟨_, _, false, (begun.trans (frameLevelOne_recovering (link.trans recovering))).trans (levelTwo_eq ..), other,
      errors, by simp, Eq.refl _⟩
  · have begun := resetFrame_begun up (idle.resolve_right (by simp)) (·.levelTwo ch)
    exact ⟨_, _, false, begun.trans (levelTwo_eq ..), other, errors, by simp, Eq.refl _⟩
  · have begun := resetFrame_begun up (idle.resolve_right (by simp)) (·.frameLevelThree ch)
    exact ⟨_, _, false, (begun.trans (frameLevelThree_unmanaged good managed)).trans (levelTwo_eq ..), other, errors,
      by simp, Eq.refl _⟩

end Controller

open Controller in
/-- Settles O27: what the two levels and the fall of a link do to their channel, once for all of them. -/
theorem resetOfAChannelClearsIt : Obligations.ResetOfAChannelClearsIt := by
  refine ⟨?_, fun h t => Eq.refl _, fun h w => Eq.refl _, Claim.waiterGone_rest⟩
  intro ch i level s timers enableA enableB sound idle cause removed enabled
  obtain ⟨ports, engine, falls, effect, other, errors, fallsIff, engineEq⟩ := reset_effect idle cause
  let d : Controller := { s.ctl with ports := ports, engine := engine }
  let reset := d.resetChannel ch level
  have s' : d.sequenceSound := sound
  have readable : d.enablesReadable := fun e => by cases e <;> assumption
  have rest : reset = _ := resetChannel_rest s' readable ch level
  have work := congrArg Controller.work rest
  have claims := congrArg Controller.claims rest
  have tables := congrArg Controller.tables rest
  have drive := congrArg Controller.drive rest
  have media := congrArg Controller.media rest
  have buffers := congrArg Controller.buffers rest
  have level3 := congrArg Controller.level3 rest
  have port : (reset.modPort ch (linkAfter falls)).port ch = linkAfter falls
      (((d.removeRecords ch).port ch).clear.takeNotice (enabled ch) (.resetDone level ch)) :=
    (modPort_port_self ..).trans (congrArg _ (resetChannel_port_self s' readable ch level))
  rw [clear_takeNotice] at port
  obtain ⟨ready, delivery, overflow, notices, errorCount⟩ := linkAfter_kept falls
    { ((d.removeRecords ch).port ch).clear with notices := if enabled ch then [.resetDone level ch] else [] }
  rw [← port] at ready delivery overflow notices errorCount
  have kept := removeRecords_rest s' ch
  have gives := gives_of_record timers effect (resetChannel_sameRest d ch level).record
  refine ⟨reset.modPort ch (linkAfter falls), gives, ?_, ready, delivery, overflow, notices, ?_, ?_, ?_, ?_,
    ?_, ?_, ?_, ?_, tables, drive, media, buffers, level3, ?_⟩
  · refine (congrArg WorkList.records work).trans ((congrArg (List.map _) (removeRecords_records s' ch)).trans
      (List.map_congr_left fun r _ => ?_))
    simp only [Bool.and_eq_true, beq_iff_eq]
  · exact errorCount.trans ((removeRecords_errorCount s' ch).trans errors)
  · rw [port]
    cases falls with
    | true =>
      rw [if_pos (fallsIff.mp (Eq.refl _))]
      exact ⟨Eq.refl _, Eq.refl _⟩
    | false =>
      rw [if_neg fun fall => Bool.false_ne_true (fallsIff.mpr fall)]
      exact ⟨Eq.refl _, Eq.refl _⟩
  · refine (modPort_port_other ..).trans ((resetChannel_port_other s' readable ch level).trans ?_)
    exact congrArg (Port.takeNotice · _ _) other
  · exact (congrArg (·.deferred.get ch) work).trans (PerChannel.get_set_self ..)
  · refine (congrArg (·.deferred.get ch.other) work).trans ((PerChannel.get_set_other ..).trans ?_)
    exact congrArg (·.work.deferred.get ch.other) kept
  · exact (congrArg WorkList.commitPending work).trans (removeRecords_commitPending s' ch)
  · intro n cl claimed
    have same : (reset.modPort ch (linkAfter falls)).claimAt n = (d.removeRecords ch).claimAt n :=
      congrArg (fun claims : Vector (Option Claim) 16 => (claims[n]?).join) claims
    rw [same, removeRecords_claimAt s']
    exact congrArg (Option.map _) claimed
  · intro n free
    have same : (reset.modPort ch (linkAfter falls)).claimAt n = (d.removeRecords ch).claimAt n :=
      congrArg (fun claims : Vector (Option Claim) 16 => (claims[n]?).join) claims
    rw [same, removeRecords_claimAt s']
    exact congrArg (Option.map _) free
  · refine (congrArg Controller.engine rest).trans (engineEq.trans ?_)
    refine ite_congr (Eq.refl _) (fun _ => ?_) fun _ => Eq.refl _
    refine congrArg (fun work => ({ s.ctl.engine with recalPending := true, work := work } : Engine)) ?_
    refine congrArg (Option.map · s.ctl.engine.work) (funext fun k => ?_)
    cases phase : k.phase <;> simp [Work.keepMark]

end Sys2Proof.Machine
end


section
/-! The level-3 reset (O28): its taking, and the values at the end of its flush. -/

namespace Sys2Proof.Machine

namespace Controller

variable {c : Controller}

/-! The taking (R175). -/

theorem resetFrame_inProgress {ch : Channel} (up : (c.port ch).link ≠ .detached) (resetting : c.level3 ≠ none)
    (take : Controller → Controller) : c.resetFrame ch take = c.frameTaken ch := by
  rw [resetFrame, if_neg (by simpa using up), if_pos (Option.isSome_iff_ne_none.mpr resetting)]

/-- The block with its yield timers stopped (R84). -/
def timersStopped (c : Controller) : Controller := { c with claims := c.claims.map (Option.map Claim.timerStopped) }

theorem timersStopped_claimAt (c : Controller) (n : Nat) :
    c.timersStopped.claimAt n = (c.claimAt n).map Claim.timerStopped := by
  simp only [claimAt, timersStopped, Vector.getElem?_map]
  cases c.claims[n]? <;> rfl

/-- The block once the waiting records of both channels have been answered RESET. -/
def waitersAnswered (c : Controller) : Controller :=
  (c.timersStopped.released (c.records.filter (·.waits))).takenOut (c.records.filter (·.waits)) fun r =>
    some (r.answer .reset)

theorem waitersAnswered_records (c : Controller) : c.waitersAnswered.records = c.records.filter fun r => !r.waits := by
  have taken := takenOut_filter_records (c.timersStopped.released (c.records.filter (·.waits))) (·.waits) fun r =>
    some (r.answer .reset)
  rw [released_records] at taken
  exact taken

theorem levelThree_eq (s : c.sequenceSound) (ch : Channel) : c.levelThree ch =
    { c.waitersAnswered.takenOut (c.waitersAnswered.records.filter (·.state == .delivering)) fun _ => none with
      level3 := some ch } := by
  have s' : c.timersStopped.sequenceSound := s
  have waiters : (c.records.filter (·.waits)).foldl (fun c r => c.resetRecord (some fun r => r.answer .reset) r)
      c.timersStopped = c.waitersAnswered :=
    foldl_resetRecord (some fun r => r.answer .reset) _ s' (s.records_nodup.filter _)
      (fun r hr => (List.mem_filter.mp hr).1) fun r hr => (List.mem_filter.mp hr).2
  have next : c.waitersAnswered.work.nextSeq = c.work.nextSeq := by
    have rest := congrArg (·.work.nextSeq) (released_rest (c.records.filter (·.waits)) c.timersStopped)
    exact rest
  have sound : c.waitersAnswered.sequenceSound :=
    s.sublist (waitersAnswered_records c ▸ List.filter_sublist) next
  have delivering : (c.waitersAnswered.records.filter (·.state == .delivering)).foldl (fun c r => c.leave r.seq none)
      c.waitersAnswered = c.waitersAnswered.takenOut (c.waitersAnswered.records.filter (·.state == .delivering))
        fun _ => none :=
    foldl_takeOut_filter sound fun r delivers d found _ => by
      have state : r.state = .delivering := beq_iff_eq.mp delivers
      exact leave_eq_takeOut found (by simp [state]) (by simp [state]) none
  rw [← delivering, ← waiters]
  exact Eq.refl _

section

variable (s : c.sequenceSound) (ch : Channel)

include s

theorem levelThree_records :
    (c.levelThree ch).records = c.records.filter fun r => r.state == .active || r.state == .lingering := by
  have left : (c.levelThree ch).records = c.waitersAnswered.records.filter fun r => !(r.state == .delivering) := by
    rw [levelThree_eq s]
    exact takenOut_filter_records _ _ fun _ => none
  rw [left, waitersAnswered_records, List.filter_filter]
  refine List.filter_congr fun r _ => ?_
  unfold Record.waits
  cases r.state <;> rfl

/-- Nothing but ports, records, claims, the COMMIT-pending mark and the flush is touched. -/
theorem levelThree_rest : c.levelThree ch = { c with
    ports := (c.levelThree ch).ports
    claims := (c.levelThree ch).claims
    level3 := some ch
    work := { c.work with
      records := (c.levelThree ch).records
      commitPending := (c.levelThree ch).work.commitPending } } := by
  rw [levelThree_eq s, waitersAnswered, released_rest]
  exact Eq.refl _

theorem levelThree_port (d : Channel) : (c.levelThree ch).port d =
    ((c.port d).leaves d (c.records.filter (·.waits)) fun r => some (r.answer .reset)).leaves d
      (c.waitersAnswered.records.filter (·.state == .delivering)) fun _ => none := by
  have answered : c.waitersAnswered.port d =
      (c.port d).leaves d (c.records.filter (·.waits)) fun r => some (r.answer .reset) := by
    rw [waitersAnswered, takenOut_port, released_rest]
    exact Eq.refl _
  rw [← answered, ← takenOut_port, levelThree_eq s]
  exact Eq.refl _

theorem levelThree_ready (d : Channel) : ((c.levelThree ch).port d).ready = (c.port d).ready ++
    ((c.records.filter (·.waits)).filter (·.channel == d)).map (·.answer .reset) := by
  rw [levelThree_port s, Port.leaves_ready, Port.leaves_ready, List.filterMap_eq_map']
  simp

theorem levelThree_claimAt (n : Nat) : (c.levelThree ch).claimAt n =
    (c.timersStopped.released (c.records.filter (·.waits))).claimAt n := by
  rw [levelThree_eq s]
  exact Eq.refl _

/-- A claim that was waited for goes on without its waiter (R84). -/
theorem levelThree_claim_gone {n : Nat} {h : Channel} {cl : Claim} (claimed : c.claimAt n = some cl)
    (waited : cl.timerStopped.waiter = some h) (waits : (c.claimWaiter h n).isSome = true) :
    (c.levelThree ch).claimAt n = some cl.timerStopped.waiterGone := by
  obtain ⟨r, found⟩ := Option.isSome_iff_exists.mp waits
  obtain ⟨there, state, own, extent⟩ := claimWaiter_some found
  have releases : (c.records.filter (·.waits)).any (·.releases n cl.timerStopped) = true :=
    List.any_eq_true.mpr ⟨r, List.mem_filter.mpr ⟨there, by simp [Record.waits, state]⟩,
      by simp [Record.releases, state, extent, waited, own]⟩
  rw [levelThree_claimAt s, released_claimAt, timersStopped_claimAt, claimed, Option.map_some, Option.map_some,
    if_pos releases]

theorem levelThree_claim_held {n : Nat} {h : Channel} (claimed : c.claimAt n = some (.held h)) :
    (c.levelThree ch).claimAt n = some (.held h) := by
  rw [levelThree_claimAt s, released_claimAt, timersStopped_claimAt, claimed, Option.map_some, Option.map_some]
  split <;> rfl

theorem levelThree_commitPending :
    (c.levelThree ch).work.commitPending = (c.work.commitPending && !c.anyIn .commitWait) := by
  have last : (c.levelThree ch).work.commitPending = c.waitersAnswered.work.commitPending := by
    rw [levelThree_eq s]
    refine takenOut_commitPending (p := fun r => r.state == .delivering) (ans := fun _ => none) fun r h => ?_
    rw [beq_iff_eq.mp h]
    decide
  have first : c.waitersAnswered.work.commitPending =
      (c.work.commitPending && (c.records.filter (·.waits)).all (·.state != .commitWait)) := by
    rw [waitersAnswered, released_rest]
    exact Eq.refl _
  rw [last, first, List.all_filter, anyIn, List.not_any_eq_all_not]
  refine congrArg (c.work.commitPending && c.records.all ·) (funext fun r => ?_)
  unfold Record.waits
  cases r.state <;> rfl

end

end Controller

end Sys2Proof.Machine
end


section
/-! The level-3 reset (O28): the values at the end of its flush, and the commands. -/

namespace Sys2Proof.Machine

namespace Controller

variable {c : Controller}

/-! The values (R176). -/

/-- The block with its ports cleared, an empty Work List, and the fallback entry of the reset. -/
def resetEntered (c : Controller) : Controller :=
  ({ c.portsCleared with work := .powerOn } : Controller).fallbackEntry .reset

/-- The same with the window begun anew. -/
def windowAnew (c : Controller) : Controller :=
  (c.resetEntered.setMedia { c.resetEntered.media with consecutive := 0, degraded := false }).startWindow

theorem levelThreeValues_eq (c : Controller) (sender : Channel) :
    c.levelThreeValues sender = { c.windowAnew.offerBoth (.resetDone 3 sender) with level3 := none } := rfl

theorem fallbackEntry_reset_work (c : Controller) : (c.fallbackEntry .reset).work = c.work := by
  rw [fallbackEntry_eq, givePendingStop_eq]
  exact Eq.refl _

theorem resetEntered_sameRest (c : Controller) : c.SameRest c.resetEntered :=
  SameRest.trans (d := { c.portsCleared with work := .powerOn }) (by constructor <;> exact Eq.refl _)
    (fallbackEntry_sameRest ..)

/-- The window takes its limits from a readable Monitor Record, which the fallback keeps. -/
theorem windowAnew_eq (good : c.tables.active.monitor.w0.good = true) : c.windowAnew = c.resetEntered.setMedia
    { c.media with
      consecutive := 0, degraded := false, counted := 0, retried := 0
      threshold := c.tables.active.monitor.threshold
      tripWindows := c.tables.active.monitor.tripWindows } := by
  have rest := resetEntered_sameRest c
  have monitor : (c.resetEntered.setMedia
      { c.resetEntered.media with consecutive := 0, degraded := false }).tables.active.monitor =
        c.tables.active.monitor := rest.monitor
  rw [windowAnew, startWindow_readable (by rw [monitor]; exact good), monitor, rest.media]
  exact Eq.refl _

theorem fallback_readable {d : Controller} (forms : ∀ ch, d.channelRecord ch = fallbackChannel) : d.enablesReadable :=
  fun ch => by
    rw [noticesReadable, forms]
    exact Eq.refl _

section

variable (good : c.tables.active.monitor.w0.good = true) (sender : Channel)

include good

theorem windowAnew_channelRecord (ch : Channel) : c.windowAnew.channelRecord ch = fallbackChannel := by
  rw [windowAnew_eq good]
  exact fallbackEntry_channelRecord ..

theorem levelThreeValues_rest : c.levelThreeValues sender = { c.windowAnew with
    ports := (c.levelThreeValues sender).ports
    level3 := none } := by
  have offered := offerBoth_rest (fallback_readable (windowAnew_channelRecord good)) (.resetDone 3 sender)
  rw [levelThreeValues_eq, offered]

theorem levelThreeValues_work : (c.levelThreeValues sender).work = .powerOn := by
  rw [levelThreeValues_rest good, windowAnew_eq good]
  exact fallbackEntry_reset_work ({ c.portsCleared with work := .powerOn } : Controller)

theorem levelThreeValues_tables : (c.levelThreeValues sender).tables = c.tables.enterFallback .reset := by
  rw [levelThreeValues_rest good, windowAnew_eq good]
  exact fallbackEntry_tables ..

theorem levelThreeValues_claimAt (n : Nat) : (c.levelThreeValues sender).claimAt n = none := by
  rw [levelThreeValues_rest good, windowAnew_eq good]
  exact fallbackEntry_claimAt ..

theorem levelThreeValues_media : (c.levelThreeValues sender).media = { c.media with
    consecutive := 0, degraded := false, counted := 0, retried := 0
    threshold := c.tables.active.monitor.threshold
    tripWindows := c.tables.active.monitor.tripWindows } := by
  rw [levelThreeValues_rest good, windowAnew_eq good]
  exact Eq.refl _

/-- The Engine's cylinder and mark, and the drive, are kept. -/
theorem levelThreeValues_kept : (c.levelThreeValues sender).engine.cylinder = c.engine.cylinder ∧
    (c.levelThreeValues sender).engine.recalPending = c.engine.recalPending ∧
    (c.levelThreeValues sender).drive = c.drive := by
  have rest := resetEntered_sameRest c
  rw [levelThreeValues_rest good, windowAnew_eq good]
  exact ⟨rest.cylinder, rest.recal, rest.drive⟩

/-- A port takes two notices once it is cleared. -/
theorem levelThreeValues_port (ch : Channel) : (c.levelThreeValues sender).port ch =
    (((c.port ch).levelThree).takeNotice true (.fallback .reset)).takeNotice true (.resetDone 3 sender) := by
  have told : c.windowAnew.port ch = ((c.port ch).levelThree).takeNotice true (.fallback .reset) := by
    rw [windowAnew_eq good, ← portsCleared_port]
    exact fallbackEntry_port ..
  have enabled : c.windowAnew.enabled ch (.resetDone 3 sender) = true := by
    rw [Controller.enabled, windowAnew_channelRecord good, fallbackChannel_enables]
  rw [← told, ← enabled, ← offerBoth_port (fallback_readable (windowAnew_channelRecord good))]
  exact Eq.refl _

end

/-- The two notices are all that a cleared port holds. -/
theorem levelThree_takes (p : Port) (sender : Channel) :
    (p.levelThree.takeNotice true (.fallback .reset)).takeNotice true (.resetDone 3 sender) =
      { p.levelThree with notices := [.fallback .reset, .resetDone 3 sender] } := by
  unfold Port.levelThree
  dsimp only
  split <;> rfl

theorem levelThree_kept (p : Port) : p.levelThree.overflow = false ∧ p.levelThree.ready = p.ready ∧
    p.levelThree.link = p.link ∧ p.levelThree.escalation = p.escalation ∧ p.levelThree.errorCount = p.errorCount := by
  unfold Port.levelThree
  dsimp only
  split <;> exact ⟨rfl, rfl, rfl, rfl, rfl⟩

theorem flushEnds_waits {sender : Channel} (resetting : c.level3 = some sender)
    (busy : c.anyIn .active = true ∨ c.anyIn .lingering = true) : c.flushEnds = c := by
  rw [flushEnds, resetting]
  refine if_neg fun done => ?_
  obtain ⟨idle, flushed⟩ := (flushDone_iff c).mp done
  simp [idle, flushed] at busy

end Controller

open Controller in
/-- Settles O28: the taking of a level-3 reset by what leaves, and the values once the flush is done. -/
theorem levelThreeResetBeginsAndTakesItsValues : Obligations.LevelThreeResetBeginsAndTakesItsValues := by
  refine ⟨fun ch s timers up => ⟨fun resetting => ?_, fun idle good managed sound => ?_⟩,
    fun s sender timers resetting => ⟨fun busy => ?_, fun idle flushed good => ?_⟩⟩
  · have taken := frameTaken_timers timers ch
    exact ⟨gives_of_effect (i := .resetLevel1 ch) (resetFrame_inProgress up resetting (·.frameLevelOne ch)) taken,
      gives_of_effect (i := .resetLevel2 ch) (resetFrame_inProgress up resetting (·.levelTwo ch)) taken,
      gives_of_effect (i := .resetLevel3 ch) (resetFrame_inProgress up resetting (·.frameLevelThree ch)) taken⟩
  · intro waits
    have effect : (Instr.resetLevel3 ch).effect s.ctl = (s.ctl.frameTaken ch).levelThree ch :=
      (resetFrame_begun up idle (·.frameLevelThree ch)).trans (frameLevelThree_managed good managed)
    have sound' : (s.ctl.frameTaken ch).sequenceSound := sound
    have rest := levelThree_rest sound' ch
    have deferred := congrArg (·.work.deferred) rest
    have level3 := congrArg Controller.level3 rest
    have tables := congrArg Controller.tables rest
    have engine := congrArg Controller.engine rest
    have drive := congrArg Controller.drive rest
    have media := congrArg Controller.media rest
    have record : ((s.ctl.frameTaken ch).levelThree ch).tables.active.drive = s.ctl.tables.active.drive :=
      congrArg (·.active.drive) tables
    refine ⟨(s.ctl.frameTaken ch).levelThree ch, gives_of_record timers effect record, level3,
      levelThree_records sound' ch, fun d => ?_, fun d => ⟨?_, ?_⟩, fun n h t claimed waited => ?_,
      fun n h claimed waited => ?_, fun n h claimed => levelThree_claim_held sound' ch claimed,
      levelThree_commitPending sound' ch, deferred, tables, engine, drive, media⟩
    · rw [levelThree_ready sound', frameTaken_ready]
      exact Eq.refl _
    · rw [levelThree_port sound', Port.leaves_notices, Port.leaves_notices, frameTaken_port]
    · rw [levelThree_port sound', Port.leaves_link, Port.leaves_link, frameTaken_port_link]
    · exact levelThree_claim_gone sound' ch claimed (Eq.refl _) waited
    · exact levelThree_claim_gone sound' ch claimed (Eq.refl _) waited
  · exact gives_of_effect (i := .level3Values) (flushEnds_waits resetting busy) timers
  · have work := levelThreeValues_work good sender
    have tables := levelThreeValues_tables good sender
    have media := levelThreeValues_media good sender
    obtain ⟨cylinder, mark, drive⟩ := levelThreeValues_kept good sender
    refine ⟨s.ctl.levelThreeValues sender, gives_of_record timers (flushEnds_done resetting idle flushed)
      (levelThreeValues_record ..), Eq.refl _, ?_⟩
    have port : ∀ d, (s.ctl.levelThreeValues sender).port d =
        { (s.ctl.port d).levelThree with notices := [.fallback .reset, .resetDone 3 sender] } := fun d =>
      (levelThreeValues_port good sender d).trans (levelThree_takes ..)
    have records : (s.ctl.levelThreeValues sender).records = [] := congrArg WorkList.records work
    have free : (s.ctl.levelThreeValues sender).freeBuffers = List.range 12 := by
      rw [freeBuffers, heldBuffers, records]
      exact Eq.refl _
    rw [tables, media, work]
    refine ⟨records, Eq.refl _, Eq.refl _, Eq.refl _, fun d => by cases d <;> rfl, free,
      levelThreeValues_claimAt good sender, Eq.refl _, Eq.refl _, Eq.refl _, fun e he => emptyRemap_unused he,
      Eq.refl _, Eq.refl _, Eq.refl _, Eq.refl _, Eq.refl _, Eq.refl _, Eq.refl _, Eq.refl _, Eq.refl _, Eq.refl _, cylinder, mark,
      drive, fun d => ?_⟩
    obtain ⟨overflow, ready, link, escalation, errorCount⟩ := levelThree_kept (s.ctl.port d)
    rw [port]
    exact ⟨Eq.refl _, overflow, levelThree_delivery _, ready, link, escalation, errorCount⟩

end Sys2Proof.Machine
end
